-- ==== Sys2Proof/Word.lean ====
section
/-! DEFINITION. The two word types of ERTCORE: bytes of a sample block (R50, R60) and 32-bit words (R9). -/

namespace Sys2Proof

/-- One unsigned 8-bit raw sample value (R14 "raw byte"). -/
abbrev Byte := BitVec 8

/-- A 32-bit word: the command register, the CSRs and the record port (R9). -/
abbrev Word := BitVec 32

/-- One IN or PASS transaction: the bytes the host offers together (R50, R100).
Its length is not part of the type, because a block of the wrong length is what BLOCK_ERR reports. -/
abbrev Block := List Byte

end Sys2Proof
end

