-- ==== Sys2Proof/Config.lean ====
section
/-! DEFINITION. The construction-time parameters of ERTCORE (R5), their legality (R6), the derived
constants (R7), and the values the spec leaves open (opaque: nothing can prove what they are). -/

namespace Sys2Proof

/-- VERIFY_MODE (R5, R181). -/
inductive VerifyMode where
  | disabled
  | enabled
deriving DecidableEq, Repr

/-- ALT_ID_LSB_START: "default 56, alternative 55" (R5, R186). -/
inductive AltStart where
  | at56
  | at55
deriving DecidableEq, Repr

/-- The window bit ALT_ID's low 24 bits start at (R186). -/
def AltStart.bit : AltStart → Nat
  | .at56 => 56
  | .at55 => 55

/-- The parameters of R5, plus CSR_BASE (R68). Plain data: a record of this type need not be legal. -/
structure Params where
  /-- BLOCKSIZE, bytes per sample block. -/
  blockSize : Nat
  /-- NACC, blocks to accumulate before the threshold. -/
  nacc : Nat
  /-- BIAS, the DC offset subtracted from every raw byte. -/
  bias : Nat
  /-- P (SYMBOL_PERIOD), samples per transmitted bit. -/
  p : Nat
  /-- JUMP, the search stride in samples. -/
  jump : Nat
  /-- PREAMBLE, element 0 first in time (R151). -/
  preamble : Vector Bool 21
  /-- VERIFY_MODE. -/
  verifyMode : VerifyMode
  /-- ALT_ID_LSB_START. -/
  altStart : AltStart
  /-- REC_DEPTH, the record FIFO depth. -/
  recDepth : Nat
  /-- USER_PARAM_INIT, the reset value of USER_PARAM. -/
  userParamInit : Word
  /-- CSR_BASE, the platform address of the CSR window (R68). -/
  csrBase : Nat
deriving DecidableEq, Repr

/-- R6: the constraints a parameter set must satisfy to be an ERTCORE at all. -/
abbrev Params.Legal (c : Params) : Prop :=
  c.blockSize % 2 = 0 ∧ 4 ≤ c.blockSize ∧ 1 ≤ c.nacc ∧ c.bias ≤ 255 ∧
  2 ≤ c.p ∧ c.p ≤ 32768 ∧ 1 ≤ c.jump ∧ c.jump ≤ c.blockSize - 2 ∧
  (c.nacc + 1) * c.blockSize ≤ 2 ^ 29 ∧ 1 ≤ c.recDepth

/-- H, the half-symbol split point: floor division (R7, R121). -/
def Params.half (c : Params) : Nat := c.p / 2
/-- WIN = 97 × P, the samples a window must have available (R7, R123). -/
def Params.win (c : Params) : Nat := 97 * c.p
/-- SPAN = 96 × P, the cursor advance after a match (R7, R159). -/
def Params.span (c : Params) : Nat := 96 * c.p
/-- SUBLEN = BLOCKSIZE − 1, in complex samples (R7, R157). -/
def Params.subLen (c : Params) : Nat := c.blockSize - 1
/-- THRESH = BLOCKSIZE × NACC, in bytes (R7, R101). -/
def Params.thresh (c : Params) : Nat := c.blockSize * c.nacc
/-- CAP = (NACC + 1) × BLOCKSIZE, in bytes (R7, R65). -/
def Params.cap (c : Params) : Nat := (c.nacc + 1) * c.blockSize
/-- OSTRIDE = JUMP × 96, in samples (R7, R156). -/
def Params.oStride (c : Params) : Nat := c.jump * 96

/-- A build: a parameter set with the proof that it is legal, so that an illegal one is refused before there is a machine
(R6 "a build that violates one is not an ERTCORE and a model refuses it"). -/
structure Build where
  params : Params
  legal : params.Legal
deriving DecidableEq, Repr

/-- R6: the build of a parameter set, refused (`none`) when the set is not legal. -/
def Build.ofParams? (c : Params) : Option Build :=
  if h : c.Legal then some ⟨c, h⟩ else none

/-! ### Values the spec leaves open -/

/-- OPEN (R5): any number; `Config.p` brings it into the legal range. -/
opaque Config.openP : Nat
/-- OPEN (R5): any number; `Config.jump` brings it into the legal range. -/
opaque Config.openJump : Nat
/-- OPEN (R5, D14): the 21 preamble bits. -/
opaque Config.preamble : BitVec 21
/-- OPEN (R5, D38): USER_PARAM_INIT. -/
opaque Config.userParamInit : Word
/-- OPEN (R68, D27): CSR_BASE. -/
opaque Config.csrBase : Nat
/-- OPEN (R5, R181): VERIFY, a function of the 75 payload bits alone. `true` is accept. -/
opaque Config.verify : Vector Bool 75 → Bool
/-- FREE VALUE (R72, U7): what the n-th CSR read made while MODE = PROC shows in the bits the spec leaves open. -/
opaque Config.anyRead : Nat → Word
/-- FREE VALUE: the byte a read of a buffer address that holds nothing would give. No rule reads one (R63, R161). -/
opaque Config.offBuffer : Nat → Byte

/-- P of the reset build: some value of 2 .. 32768 (R6), nothing says which. -/
def Config.p : Nat := 2 + Config.openP % 32767
/-- JUMP of the reset build: some value of 1 .. BLOCKSIZE − 2 = 18686 (R6), nothing says which. -/
def Config.jump : Nat := 1 + Config.openJump % 18686

/-- The parameters of the reset build: the defaults of R5 where it gives one, an open value where it says OPEN. -/
def Config.params : Params where
  blockSize := 18688
  nacc := 30
  bias := 127
  p := Config.p
  jump := Config.jump
  preamble := Vector.ofFn fun i => Config.preamble.getMsbD i
  verifyMode := .disabled
  altStart := .at56
  recDepth := 16
  userParamInit := Config.userParamInit
  csrBase := Config.csrBase

/-- The reset build satisfies R6 whatever its open values are. -/
theorem Config.params_legal : Config.params.Legal := by
  have hp := Nat.mod_lt Config.openP (y := 32767) (by decide)
  have hj := Nat.mod_lt Config.openJump (y := 18686) (by decide)
  refine ⟨by decide, by decide, by decide, by decide, ?_, ?_, ?_, ?_, by decide, by decide⟩ <;>
    simp only [Config.params, Config.p, Config.jump] <;> omega

/-- The build `State.reset` belongs to. Statements about every build use `State.resetWith`. -/
def Config.build : Build := ⟨Config.params, Config.params_legal⟩

end Sys2Proof
end

