-- ==== Sys2Proof/Syntax.lean ====
section
/-! DEFINITION. The nine host commands of ERTCORE (R2, R83): one constructor per row of the opcode table.
PUSH is a port transaction and has no encoding (R81); it is an event of the machine's environment. -/

namespace Sys2Proof

/-- A host command (R83). -/
inductive Instr where
  /-- R230 -/
  | nop
  /-- R124: the operand is the window start, a buffer sample index (R82). -/
  | corr (a : Nat)
  /-- R140 -/
  | slice
  /-- R150 -/
  | pmatch
  /-- R184 -/
  | decode
  /-- R190 -/
  | emit
  /-- R216 -/
  | proc
  /-- R105 -/
  | clear
  /-- R231 -/
  | sreset
deriving DecidableEq, Repr

end Sys2Proof
end

