-- ==== Sys2Proof/WellFormed.lean ====
section
/-! DEFINITION. Which commands have an encoding, and which blocks the IN port accepts. -/

namespace Sys2Proof

/-- R82, R86: CORR's operand is a sample index 0 .. 2^28 − 1; the other commands carry nothing. -/
def Instr.wellFormed : Instr → Bool
  | .corr a => decide (a < 2 ^ 28)
  | .nop => true
  | .slice => true
  | .pmatch => true
  | .decode => true
  | .emit => true
  | .proc => true
  | .clear => true
  | .sreset => true

/-- R100, R241: an IN transaction is well formed when it has exactly BLOCKSIZE bytes. -/
def Params.wellFormedBlock (c : Params) (b : Block) : Bool := decide (b.length = c.blockSize)

end Sys2Proof
end

