-- ==== Sys2Proof/Decode.lean ====
section
/-! DEFINITION. The command decoder (R80 to R85), total on every 32-bit word and refusing by name, and the encoder. -/

namespace Sys2Proof

/-- Why a word is no command: the two causes of ILLEGAL_CMD (R84). -/
inductive Reject where
  /-- OP in 0x9 .. 0xF. -/
  | reservedOp (op : Nat)
  /-- OP other than CORR's with ARG ≠ 0. -/
  | nonzeroArg (op : Nat)
deriving DecidableEq, Repr

/-- The decoder's answer. -/
inductive Decoded where
  | command (i : Instr)
  | illegal (r : Reject)
deriving DecidableEq, Repr

/-- OP, bits 31:28 (R80). -/
def opField (w : Word) : Nat := w.toNat / 2 ^ 28

/-- ARG, bits 27:0, zero-extended (R80, R82). -/
def argField (w : Word) : Nat := w.toNat % 2 ^ 28

/-- R80, R84: a command without operand needs ARG = 0. -/
def plainCommand (w : Word) (i : Instr) : Decoded :=
  if argField w = 0 then .command i else .illegal (.nonzeroArg (opField w))

/-- The opcode map of R83; reserved opcodes are refused, never read as a neighbour (R84). -/
def decodeWord (w : Word) : Decoded :=
  match opField w with
  | 0x0 => plainCommand w .nop
  | 0x1 => .command (.corr (argField w))
  | 0x2 => plainCommand w .slice
  | 0x3 => plainCommand w .pmatch
  | 0x4 => plainCommand w .decode
  | 0x5 => plainCommand w .emit
  | 0x6 => plainCommand w .proc
  | 0x7 => plainCommand w .clear
  | 0x8 => plainCommand w .sreset
  | op => .illegal (.reservedOp op)

/-- The instruction of a decoder's answer, if it is one. -/
def Decoded.instr? : Decoded → Option Instr
  | .command i => some i
  | .illegal _ => none

/-- The decoder on a table row's word: the first `nbits` bits of `w`, every command being one 32-bit word (R81). -/
def decodeTableWord (nbits w : Nat) : Option Instr :=
  if w % 2 ^ nbits < 2 ^ 32 then (decodeWord (BitVec.ofNat 32 (w % 2 ^ nbits))).instr? else none

/-! ### Encoding -/

/-- The OP value of a command (R83). -/
def Instr.opcode : Instr → Nat
  | .nop => 0x0
  | .corr _ => 0x1
  | .slice => 0x2
  | .pmatch => 0x3
  | .decode => 0x4
  | .emit => 0x5
  | .proc => 0x6
  | .clear => 0x7
  | .sreset => 0x8

/-- The ARG value of a command (R80, R82): CORR's operand, 0 for the others. -/
def Instr.arg : Instr → Nat
  | .corr a => a
  | .nop => 0
  | .slice => 0
  | .pmatch => 0
  | .decode => 0
  | .emit => 0
  | .proc => 0
  | .clear => 0
  | .sreset => 0

/-- The command word: OP in bits 31:28, ARG in bits 27:0 (R80). -/
def encode (i : Instr) : Word := BitVec.ofNat 4 i.opcode ++ BitVec.ofNat 28 i.arg

end Sys2Proof
end

