-- ==== Sys2Proof/Machine/State.lean ====
section
/-! DEFINITION. The state of ERTCORE (10_state.md), the host's side of its ports, and the state after reset (R51). -/

namespace Sys2Proof.Machine

/-- R22: the engine state as STATUS shows it. -/
inductive Mode where
  | accum
  | proc
  | halted
deriving DecidableEq, Repr

/-- What the engine is in the middle of: MODE (R22) together with the hidden state of R33, which exists only while
MODE = PROC. Each way of being busy is a constructor of its own, so a cursor exists exactly while the spec says it does. -/
inductive Phase where
  /-- MODE = ACCUM. -/
  | accum
  /-- MODE = HALTED (R244). -/
  | halted
  /-- MODE = PROC: the command is accepted and not yet executed (R275). -/
  | busy (i : Instr)
  /-- MODE = PROC: PassOut holds with the block on the PASS port (R278). -/
  | passHold (b : Block)
  /-- MODE = PROC: the host has taken the block, which is still to be appended (R100, R278). -/
  | passTaken (b : Block)
  /-- MODE = PROC: a host-issued EMIT holds for FIFO space (R190, R277). -/
  | emitHold
  /-- MODE = PROC, in SCAN: the outer loop is about to test its condition at cursor u (R155, R156). -/
  | scanOuter (u : Nat)
  /-- MODE = PROC, in SCAN: the inner loop is about to test its condition (R155, R158). -/
  | scanInner (u lsub o : Nat)
  /-- MODE = PROC, in SCAN: DECODE is done and EMIT is next, or holds (R155, R160, R277). -/
  | scanEmit (u lsub o : Nat)
deriving DecidableEq, Repr

/-- MODE (R22): one home for it, the phase. -/
def Phase.mode : Phase → Mode
  | .accum => .accum
  | .halted => .halted
  | .busy _ => .proc
  | .passHold _ => .proc
  | .passTaken _ => .proc
  | .emitHold => .proc
  | .scanOuter _ => .proc
  | .scanInner _ _ _ => .proc
  | .scanEmit _ _ _ => .proc

/-- The accumulation buffer's bytes as (address, byte) cells; address i holds raw[i] (R60). -/
abbrev Memory := List Host.Cell

/-- The canonical form: addresses strictly rising. An unlisted address holds nothing, so no entry can equal it. -/
abbrev Memory.wf (m : Memory) : Prop := m.Pairwise fun c d => c.1 < d.1

/-- R25: the field registers. -/
structure FieldRegs where
  meterId : BitVec 26
  meterType : BitVec 4
  physTamper : BitVec 2
  encTamper : BitVec 2
  consumption : BitVec 24
  altId : BitVec 26
deriving DecidableEq, Repr

/-- R27: the status flags. -/
structure StatusFlags where
  /-- MATCH -/
  matched : Bool
  /-- DEC_OK -/
  decOk : Bool
  /-- LOWCONF -/
  lowConf : Bool
  /-- VREJ -/
  vRej : Bool
deriving DecidableEq, Repr

/-- R28: the sticky error flags. -/
structure ErrorFlags where
  illegalCmd : Bool
  rangeErr : Bool
  stateErr : Bool
  blockErr : Bool
deriving DecidableEq, Repr

/-- The causes of R241, each named by the flag it sets. -/
inductive ErrorFlag where
  | illegalCmd
  | rangeErr
  | stateErr
  | blockErr
deriving DecidableEq, Repr

/-- A record in the FIFO (R29, R190): the DecodedFrame fields with LOWCONF and START_OFFSET. -/
structure Record where
  meterId : BitVec 26
  meterType : BitVec 4
  physTamper : BitVec 2
  encTamper : BitVec 2
  consumption : BitVec 24
  lowConf : Bool
  startOffset : BitVec 28
deriving DecidableEq, Repr

/-- A record as the REC port sends it: W0, then W1, then W2 (R195). -/
structure RecordWords where
  w0 : Word
  w1 : Word
  w2 : Word
deriving DecidableEq, Repr

/-- A CSR bus access: how many bytes wide, and for a write the value (R67). -/
inductive Access where
  | read (bytes : Nat)
  | write (bytes : Nat) (v : Word)
deriving DecidableEq, Repr

/-- What the outside world does next (R20, R253), or that the engine has the next move (R71: both orders are admitted). -/
inductive Event where
  /-- The engine makes its next move, if it has one. -/
  | engine
  /-- The host offers a block on the IN port; it waits upstream until the engine accepts it (R100, R276). -/
  | offer (b : Block)
  /-- The host stops offering: the blocks not yet accepted are withdrawn (R253). -/
  | withdraw
  /-- The host takes one block from the PASS port; the take waits for one (R214). -/
  | takePass
  /-- The host takes one record from the REC port; the take waits for one (R235). -/
  | takeRec
  /-- The host polls STATUS.BUSY and goes on once it reads 0 (R275). -/
  | poll
  /-- A CSR access at a byte offset of the window, a command written to CMD being executed at once (R233, R234, R275). -/
  | csr (offset : Nat) (acc : Access)
  /-- A write of a word to CMD whose command, if accepted, takes time: it executes at a later engine move (R275). -/
  | slowCmd (w : Word)
  /-- A bus access at a platform address, CSR_BASE + offset (R68). -/
  | platform (addr : Nat) (acc : Access)
  /-- The RST input is asserted and released (R270). -/
  | rst
deriving DecidableEq, Repr

/-- What a CSR access answers to the host. -/
inductive BusAnswer where
  | value (w : Word)
  | written
  /-- R67: a narrower, wider or misaligned access. -/
  | busError
deriving DecidableEq, Repr

/-- The host's side of the machine: what it will do, and what it has received. Not ERTCORE's own state (R21);
it is here because the step is one function of the state, and no reset touches it. -/
@[ext]
structure Env where
  /-- What happens next, first event first. -/
  agenda : List Event
  /-- Blocks offered on the IN port and not yet accepted, oldest first (R276). -/
  offers : List Block
  /-- Blocks the host has taken from the PASS port, oldest first. -/
  passGot : List Block
  /-- Records the host has taken from the REC port, oldest first. -/
  recGot : List RecordWords
  /-- The answers of the CSR bus, oldest first. -/
  answers : List BusAnswer
  /-- The payloads sent on the VER port, oldest first (R181). -/
  verCalls : List (Vector Bool 75)
  /-- The MODEL's own counter of the free value `Config.anyRead`: how many free reads were made. -/
  freeReads : Nat
deriving DecidableEq, Repr

/-- The whole state. -/
@[ext]
structure State where
  /-- The construction parameters (R5): fixed, no step changes them. Carried here because `step` takes no other argument. -/
  build : Build
  /-- MODE with the hidden state of R33 (R22). -/
  phase : Phase
  /-- The accumulation buffer (R60). -/
  mem : Memory
  /-- ACC_LEN, the buffer length in bytes (R32, R62). -/
  accLen : Nat
  /-- SB[0..95], exact integers (R23). -/
  sb : Vector Int 96
  /-- BV[0..95] (R24). -/
  bv : Vector Bool 96
  /-- METER_ID .. ALT_ID (R25). -/
  fields : FieldRegs
  /-- CAND_OFFSET (R26). -/
  candOffset : BitVec 28
  /-- MATCH, DEC_OK, LOWCONF, VREJ (R27). -/
  flags : StatusFlags
  /-- ILLEGAL_CMD, RANGE_ERR, STATE_ERR, BLOCK_ERR (R28). -/
  errors : ErrorFlags
  /-- The record FIFO, head first (R29). -/
  fifo : List Record
  /-- USER_PARAM (R30). -/
  userParam : Word
  /-- SB_SEL (R31). -/
  sbSel : BitVec 7
  /-- The host's side of the ports. -/
  env : Env
deriving DecidableEq, Repr

/-- The parameters of the build the state belongs to. -/
abbrev State.params (s : State) : Params := s.build.params

/-- MODE (R22). -/
abbrev State.mode (s : State) : Mode := s.phase.mode

/-- Why a step stops. -/
inductive Fault where
  /-- Raised by a bus access outside ERTCORE's 256-byte CSR window (R35 "a 256-byte CSR window", R67): no such location of
  this hardware exists, and what the platform has there is not in the spec. Safe: the run stops. -/
  | outsideWindow
deriving DecidableEq, Repr

/-- Why an instruction has no meaning. -/
inductive Refusal where
  /-- Raised by an arm of `exec` for an instruction not modelled yet. Safe: the run stops. No arm raises it. -/
  | notModelled (mnemonic : String)
deriving DecidableEq, Repr

/-- A host that has done nothing and plans nothing. -/
def Env.empty : Env where
  agenda := []
  offers := []
  passGot := []
  recGot := []
  answers := []
  verCalls := []
  freeReads := 0

/-- R51, R270: every piece of ERTCORE's state at its reset value, for a build. -/
def State.resetWith (b : Build) : State where
  build := b
  phase := .accum
  mem := []
  accLen := 0
  sb := Vector.replicate 96 0
  bv := Vector.replicate 96 false
  fields :=
    { meterId := 0, meterType := 0, physTamper := 0, encTamper := 0, consumption := 0, altId := 0 }
  candOffset := 0
  flags := { matched := false, decOk := false, lowConf := false, vRej := false }
  errors := { illegalCmd := false, rangeErr := false, stateErr := false, blockErr := false }
  fifo := []
  userParam := b.params.userParamInit
  sbSel := 0
  env := Env.empty

/-- The machine right after reset (R51): the default build of R5. -/
def State.reset : State := State.resetWith Config.build

end Sys2Proof.Machine
end

