-- ==== Sys2Proof/Machine/Operands.lean ====
section
/-! DEFINITION. What commands and CSR accesses read: bit sequences and val (R10, R11), buffer samples (R60 to R63), the
window's payload and padded buffer (R180, R182), records as words (R195), and the CSR map (R35 to R49). -/

namespace Sys2Proof.Machine

/-- The vector whose element n is `f n`. -/
def tabulate {α : Type} (n : Nat) (f : Nat → α) : Vector α n := ⟨((List.range n).map f).toArray, by simp⟩

/-! ### Bit sequences -/

/-- s[a:b), the half-open sub-sequence (R10). -/
def span (s : List Bool) (a b : Nat) : List Bool := (s.drop a).take (b - a)

/-- zeros(k) (R10). -/
def zeros (k : Nat) : List Bool := List.replicate k false

/-- val(s), first element most significant (R11). -/
def val (s : List Bool) : Nat := s.foldl (fun v b => 2 * v + b.toNat) 0

/-! ### The buffer -/

/-- The byte at a buffer address, if one is there (R60). -/
def Memory.read : Memory → Nat → Option Byte
  | [], _ => none
  | c :: cs, a => if c.1 = a then some c.2 else Memory.read cs a

/-- raw[a] (R60). An address that holds nothing reads as a free value, which no rule asks for (R63). -/
def State.raw (s : State) (a : Nat) : Byte := (s.mem.read a).getD (Config.offBuffer a)

/-- Ls, the number of complex samples in the buffer (R62). -/
def State.ls (s : State) : Nat := s.accLen / 2

/-- Sample(k) = (I, Q), bias removed, I first (R61, R63). -/
def State.sample (s : State) (k : Nat) : Int × Int :=
  ((s.raw (2 * k)).toNat - s.params.bias, (s.raw (2 * k + 1)).toNat - s.params.bias)

/-- READY, a strict comparison in bytes (R101). -/
def State.ready (s : State) : Bool := decide (s.params.thresh < s.accLen)

/-! ### Soft bits, bits and fields -/

/-- SB[n] (R23); 0 outside 0..95, which is what SB_DATA shows there (R44). -/
def State.SB (s : State) (n : Nat) : Int := s.sb.toList.getD n 0

/-- BV[n] (R24). -/
def State.BV (s : State) (n : Nat) : Bool := s.bv.toList.getD n false

/-- BV as a bit sequence, earliest bit first (R10, R24). -/
def State.bits (s : State) : List Bool := s.bv.toList

/-- payload = BV[21:96), 75 bits (R180). -/
def State.payload (s : State) : Vector Bool 75 := tabulate 75 fun i => s.BV (21 + i)

/-- dc = zeros(180) ++ payload, 255 bits (R182). -/
def State.dc (s : State) : List Bool := zeros 180 ++ s.payload.toList

/-- The field values DECODE extracts (R183, R184, R186). -/
def State.extracted (s : State) : FieldRegs :=
  let dc := s.dc
  let a := s.params.altStart.bit
  { meterId := BitVec.ofNat 26 (val (span dc 180 182 ++ span dc 215 239))
    physTamper := BitVec.ofNat 2 (val (span dc 183 185))
    meterType := BitVec.ofNat 4 (val (span dc 185 189))
    encTamper := BitVec.ofNat 2 (val (span dc 189 191))
    consumption := BitVec.ofNat 24 (val (span dc 191 215))
    altId := BitVec.ofNat 26 (val (span s.bits 21 23 ++ span s.bits a (a + 24))) }

/-- The record EMIT sends (R190). -/
def State.record (s : State) : Record where
  meterId := s.fields.meterId
  meterType := s.fields.meterType
  physTamper := s.fields.physTamper
  encTamper := s.fields.encTamper
  consumption := s.fields.consumption
  lowConf := s.flags.lowConf
  startOffset := s.candOffset

/-- The three words of a record (R195). -/
def Record.words (r : Record) : RecordWords where
  w0 := 0#2 ++ r.meterType ++ r.meterId
  w1 := 0#3 ++ BitVec.ofBool r.lowConf ++ r.encTamper ++ r.physTamper ++ r.consumption
  w2 := 0#4 ++ r.startOffset

/-- Whether the FIFO has room: REC_LEVEL < REC_DEPTH (R190). -/
def State.hasRoom (s : State) : Bool := decide (s.fifo.length < s.params.recDepth)

/-! ### The CSR map -/

/-- The mapped registers (R35 to R49). -/
inductive Csr where
  | id
  | status
  | cmd
  | accLen
  | userParam
  | bv0
  | bv1
  | bv2
  | sbSel
  | sbData
  | meterId
  | meterType
  | physTamper
  | encTamper
  | consumption
  | altId
  | candOffset
  | recLevel
deriving DecidableEq, Repr

/-- The byte offset of a register (R35 to R49). -/
def Csr.offset : Csr → Nat
  | .id => 0x00
  | .status => 0x04
  | .cmd => 0x08
  | .accLen => 0x0C
  | .userParam => 0x10
  | .bv0 => 0x14
  | .bv1 => 0x18
  | .bv2 => 0x1C
  | .sbSel => 0x20
  | .sbData => 0x24
  | .meterId => 0x28
  | .meterType => 0x2C
  | .physTamper => 0x30
  | .encTamper => 0x34
  | .consumption => 0x38
  | .altId => 0x3C
  | .candOffset => 0x40
  | .recLevel => 0x44

/-- The register at a byte offset; none at the unmapped offsets 0x48 to 0xFC (R47, R68). -/
def csrAt : Nat → Option Csr
  | 0x00 => some .id
  | 0x04 => some .status
  | 0x08 => some .cmd
  | 0x0C => some .accLen
  | 0x10 => some .userParam
  | 0x14 => some .bv0
  | 0x18 => some .bv1
  | 0x1C => some .bv2
  | 0x20 => some .sbSel
  | 0x24 => some .sbData
  | 0x28 => some .meterId
  | 0x2C => some .meterType
  | 0x30 => some .physTamper
  | 0x34 => some .encTamper
  | 0x38 => some .consumption
  | 0x3C => some .altId
  | 0x40 => some .candOffset
  | 0x44 => some .recLevel
  | _ => none

/-- The bits of a register whose value a read made while MODE = PROC leaves open (R72); the reserved bits stay 0 (R36, R45). -/
def Csr.openMask : Csr → Word
  | .id => 0
  | .status => 0x0000003C
  | .cmd => 0
  | .accLen => 0
  | .userParam => 0
  | .bv0 => 0xFFFFFFFF
  | .bv1 => 0xFFFFFFFF
  | .bv2 => 0xFFFFFFFF
  | .sbSel => 0
  | .sbData => 0xFFFFFFFF
  | .meterId => 0x03FFFFFF
  | .meterType => 0x0000000F
  | .physTamper => 0x00000003
  | .encTamper => 0x00000003
  | .consumption => 0x00FFFFFF
  | .altId => 0x03FFFFFF
  | .candOffset => 0x0FFFFFFF
  | .recLevel => 0

/-- The window offset of a platform address, none outside the window (R35, R68). -/
def windowOffset (base addr : Nat) : Option Nat :=
  if base ≤ addr ∧ addr < base + 256 then some (addr - base) else none

/-- Whether an access is an aligned 32-bit one (R67). -/
def aligned32 (offset bytes : Nat) : Bool := decide (bytes = 4 ∧ offset % 4 = 0)

end Sys2Proof.Machine
end

