-- ==== Sys2Proof/Machine/Flags.lean ====
section
/-! DEFINITION. The status and error flags: how a command writes MATCH, DEC_OK, VREJ and LOWCONF (R27), how an error flag is
set and cleared (R28, R241, R234), and STATUS and the other CSRs as words (R36 to R49). -/

namespace Sys2Proof.Machine

/-- CORR and SLICE: MATCH, DEC_OK and VREJ become 0; LOWCONF is kept (R124, R140). -/
def StatusFlags.cleared (f : StatusFlags) : StatusFlags :=
  { f with matched := false, decOk := false, vRej := false }

/-- PMATCH: MATCH takes the comparison's result, DEC_OK and VREJ become 0 (R150). -/
def StatusFlags.compared (f : StatusFlags) (m : Bool) : StatusFlags :=
  { f with matched := m, decOk := false, vRej := false }

/-- DECODE without a candidate: DEC_OK and VREJ become 0 (R184). -/
def StatusFlags.noCandidate (f : StatusFlags) : StatusFlags := { f with decOk := false, vRej := false }

/-- DECODE rejected by the verifier: DEC_OK becomes 0, VREJ 1; LOWCONF is kept (R184). -/
def StatusFlags.rejected (f : StatusFlags) : StatusFlags := { f with decOk := false, vRej := true }

/-- DECODE accepted: DEC_OK becomes 1, VREJ 0, LOWCONF says whether there was no verifier (R184, R187). -/
def StatusFlags.accepted (f : StatusFlags) (low : Bool) : StatusFlags :=
  { f with decOk := true, vRej := false, lowConf := low }

/-- EMIT sent the record: DEC_OK becomes 0 (R190). -/
def StatusFlags.emitted (f : StatusFlags) : StatusFlags := { f with decOk := false }

/-- Sets one sticky error flag (R28). -/
def ErrorFlags.set (e : ErrorFlags) : ErrorFlag → ErrorFlags
  | .illegalCmd => { e with illegalCmd := true }
  | .rangeErr => { e with rangeErr := true }
  | .stateErr => { e with stateErr := true }
  | .blockErr => { e with blockErr := true }

/-- A STATUS write: each of bits 8, 9, 10 that is 1 clears its flag; BLOCK_ERR is not W1C (R36, R234). -/
def ErrorFlags.ack (e : ErrorFlags) (v : Word) : ErrorFlags :=
  { e with
    illegalCmd := e.illegalCmd && !v.getLsbD 8
    rangeErr := e.rangeErr && !v.getLsbD 9
    stateErr := e.stateErr && !v.getLsbD 10 }

/-- STATUS as the state holds it, bit 11 down to bit 0 after 20 reserved zeros (R36). -/
def State.statusWord (s : State) : Word :=
  0#20 ++ BitVec.ofBool s.errors.blockErr ++ BitVec.ofBool s.errors.stateErr ++
    BitVec.ofBool s.errors.rangeErr ++ BitVec.ofBool s.errors.illegalCmd ++
    BitVec.ofBool (decide (s.fifo.length = s.params.recDepth)) ++ BitVec.ofBool (decide (0 < s.fifo.length)) ++
    BitVec.ofBool s.flags.vRej ++ BitVec.ofBool s.flags.lowConf ++
    BitVec.ofBool s.flags.decOk ++ BitVec.ofBool s.flags.matched ++
    BitVec.ofBool (decide (s.mode = .halted)) ++ BitVec.ofBool (decide (s.mode = .proc))

/-- BVi = val(BV[32i : 32i+32)) (R41). -/
def State.bvWord (s : State) (i : Nat) : Word := BitVec.ofNat 32 (val (span s.bits (32 * i) (32 * i + 32)))

/-- A register's word as the state holds it (R35 to R49). -/
def State.csrWord (s : State) : Csr → Word
  | .id => 0x45525443
  | .status => s.statusWord
  | .cmd => 0
  | .accLen => BitVec.ofNat 32 s.accLen
  | .userParam => s.userParam
  | .bv0 => s.bvWord 0
  | .bv1 => s.bvWord 1
  | .bv2 => s.bvWord 2
  | .sbSel => s.sbSel.zeroExtend 32
  | .sbData => BitVec.ofInt 32 (s.SB s.sbSel.toNat)
  | .meterId => s.fields.meterId.zeroExtend 32
  | .meterType => s.fields.meterType.zeroExtend 32
  | .physTamper => s.fields.physTamper.zeroExtend 32
  | .encTamper => s.fields.encTamper.zeroExtend 32
  | .consumption => s.fields.consumption.zeroExtend 32
  | .altId => s.fields.altId.zeroExtend 32
  | .candOffset => s.candOffset.zeroExtend 32
  | .recLevel => BitVec.ofNat 32 s.fifo.length

/-- The word at an aligned offset: 0 where nothing is mapped (R68, R233). -/
def State.wordAt (s : State) (offset : Nat) : Word :=
  match csrAt offset with
  | some c => s.csrWord c
  | none => 0

/-- The bits a read made while MODE = PROC leaves open, at an aligned offset (R72). -/
def openMaskAt (offset : Nat) : Word :=
  match csrAt offset with
  | some c => c.openMask
  | none => 0

end Sys2Proof.Machine
end

