-- ==== Sys2Proof/Machine/Ops.lean ====
section
/-! DEFINITION. The named operations every meaning is built from: one update per piece of state, the buffer's write primitives
(R64, R66), raising an error (R241) and clearing one (R234), the mode check of a command (R85), holds and the record FIFO
(R190, R277), and the soft reset (R231). -/

namespace Sys2Proof.Machine

/-! ### One update per piece of state -/

def State.setPhase (s : State) (x : Phase) : State := { s with phase := x }
def State.setBuffer (s : State) (m : Memory) (n : Nat) : State := { s with mem := m, accLen := n }
def State.setSb (s : State) (x : Vector Int 96) : State := { s with sb := x }
def State.setBv (s : State) (x : Vector Bool 96) : State := { s with bv := x }
def State.setFields (s : State) (x : FieldRegs) : State := { s with fields := x }
def State.setCandOffset (s : State) (x : BitVec 28) : State := { s with candOffset := x }
def State.setFlags (s : State) (x : StatusFlags) : State := { s with flags := x }
def State.setErrors (s : State) (x : ErrorFlags) : State := { s with errors := x }
def State.setFifo (s : State) (x : List Record) : State := { s with fifo := x }
def State.setUserParam (s : State) (x : Word) : State := { s with userParam := x }
def State.setSbSel (s : State) (x : BitVec 7) : State := { s with sbSel := x }
def State.setEnv (s : State) (x : Env) : State := { s with env := x }

/-! ### The host's side of the ports -/

def Env.setAgenda (e : Env) (l : List Event) : Env := { e with agenda := l }
def Env.setOffers (e : Env) (l : List Block) : Env := { e with offers := l }
def Env.gotBlock (e : Env) (b : Block) : Env := { e with passGot := e.passGot ++ [b] }
def Env.gotRecord (e : Env) (r : RecordWords) : Env := { e with recGot := e.recGot ++ [r] }
def Env.gotAnswer (e : Env) (a : BusAnswer) : Env := { e with answers := e.answers ++ [a] }
def Env.gotPayload (e : Env) (v : Vector Bool 75) : Env := { e with verCalls := e.verCalls ++ [v] }
def Env.countFreeRead (e : Env) : Env := { e with freeReads := e.freeReads + 1 }

/-- The events still to come. -/
def State.setAgenda (s : State) (l : List Event) : State := s.setEnv (s.env.setAgenda l)
/-- The blocks waiting upstream (R276). -/
def State.setOffers (s : State) (l : List Block) : State := s.setEnv (s.env.setOffers l)
/-- The host receives a block from the PASS port (R214). -/
def State.passTo (s : State) (b : Block) : State := s.setEnv (s.env.gotBlock b)
/-- The host receives a record's words from the REC port (R235). -/
def State.recTo (s : State) (r : RecordWords) : State := s.setEnv (s.env.gotRecord r)
/-- The bus answers the host. -/
def State.answer (s : State) (a : BusAnswer) : State := s.setEnv (s.env.gotAnswer a)
/-- The payload goes out on the VER port (R50, R181). -/
def State.askVerifier (s : State) : State := s.setEnv (s.env.gotPayload s.payload)
/-- One free value is used up. -/
def State.countFreeRead (s : State) : State := s.setEnv s.env.countFreeRead

/-! ### The buffer's write primitives -/

/-- Consecutive bytes from an address on. -/
def cellsFrom : Nat → List Byte → Memory
  | _, [] => []
  | a, b :: bs => (a, b) :: cellsFrom (a + 1) bs

/-- Stores bytes at consecutive addresses from `base` on, keeping the canonical form. -/
def Memory.store (m : Memory) (base : Nat) (bytes : List Byte) : Memory :=
  m.filter (fun c => decide (c.1 < base)) ++ cellsFrom base bytes ++
    m.filter (fun c => decide (base + bytes.length ≤ c.1))

/-- BufAppend(block): the block goes to the end of raw and ACC_LEN grows by BLOCKSIZE (R64). -/
def State.bufAppend (s : State) (b : Block) : State :=
  s.setBuffer (s.mem.store s.accLen b) (s.accLen + s.params.blockSize)

/-- BufClear(): raw becomes empty and ACC_LEN 0 (R66). -/
def State.bufClear (s : State) : State := s.setBuffer [] 0

/-! ### Errors -/

/-- `raise E`: sets the sticky flag E and changes nothing else (R12, R241). ERTCORE has no other way of taking an exception:
nothing is saved, there is no vector and no handler (R243). -/
def State.raise (s : State) (e : ErrorFlag) : State := s.setErrors (s.errors.set e)

/-- The host's way back from an error: a STATUS write clears the W1C flags it names. There is nothing to restore (R234, R245). -/
def State.ackErrors (s : State) (v : Word) : State := s.setErrors (s.errors.ack v)

/-- R241, R244: a malformed block sets BLOCK_ERR and halts the engine; the block is gone. -/
def State.haltOnBlock (s : State) : State := (s.raise .blockErr).setPhase .halted

/-! ### The mode check of a command -/

/-- A command other than SRESET has its effect when MODE = ACCUM and raises STATE_ERR otherwise (R85). -/
def State.command (s : State) (effect : State → State) : State :=
  if s.mode = .accum then effect s else s.raise .stateErr

/-! ### Records and holds -/

/-- The end of EMIT: the record goes to the FIFO's tail and DEC_OK becomes 0 (R190, R195). -/
def State.sendRecord (s : State) : State := (s.setFifo (s.fifo ++ [s.record])).setFlags s.flags.emitted

/-- EMIT from where it may hold: `done` says how the engine goes on once nothing is left to send; while the FIFO is full the
engine keeps every piece of state but the phase it waits in (R190, R277). -/
def State.emitThen (s : State) (hold done : Phase) : State :=
  match s.flags.decOk, s.hasRoom with
  | false, _ => s.setPhase done
  | true, true => s.sendRecord.setPhase done
  | true, false => s.setPhase hold

/-! ### Reset -/

/-- R231, R270: every piece of ERTCORE's state takes its reset value; a PROCESS or a hold is abandoned with the phase. -/
def State.softReset (s : State) : State := (State.resetWith s.build).setEnv s.env

end Sys2Proof.Machine
end

