-- ==== Sys2Proof/Machine/Accumulator.lean ====
section
/-! DEFINITION. Sample intake and accumulation (41_accumulator.md): CLEAR, and the engine's side of PUSH. -/

namespace Sys2Proof.Machine

/-- CLEAR: empties the buffer without processing it (R105). -/
def execClear (s : State) : Host.Outcome State Fault Refusal := .next (s.command State.bufClear)

/-- PUSH, first part: the engine takes the block at the head of the IN port. A malformed one halts it; a well-formed one goes
to the PASS port, where PassOut holds until the host takes it (R100, R214, R278). -/
def State.acceptBlock (s : State) (b : Block) : State :=
  if s.params.wellFormedBlock b then s.setPhase (.passHold b) else s.haltOnBlock

/-- PUSH, PassOut: the host takes the block from the PASS port (R214). -/
def State.passOut (s : State) (b : Block) : State := (s.passTo b).setPhase (.passTaken b)

/-- PUSH, last part: the block is appended, and PROCESS starts if that made the buffer READY (R100, R101, R210). -/
def State.finishPush (s : State) (b : Block) : State :=
  let t := s.bufAppend b
  t.setPhase (if t.ready then .scanOuter 0 else .accum)

end Sys2Proof.Machine
end

