-- ==== Sys2Proof/Machine/Correlator.lean ====
section
/-! DEFINITION. The energy correlator (42_correlator.md): CORR. -/

namespace Sys2Proof.Machine

/-- The power of buffer sample k; p_a[k] of R120 is the power of sample a + k. -/
def State.power (s : State) (k : Nat) : Int :=
  let (i, q) := s.sample k
  i * i + q * q

/-- The powers the formula reads for a window at a: p_a[0] .. p_a[96·P] (R120, R123). -/
def State.powers (s : State) (a : Nat) : List Int :=
  (List.range (s.params.span + 1)).map fun k => s.power (a + k)

/-- The running cumulative sum of a list, each element included in its own sum, from a sum so far (R122). -/
def runningSums (sum : Int) : List Int → List Int
  | [] => []
  | p :: ps => (sum + p) :: runningSums (sum + p) ps

/-- SB[n] from the cumulative energies c: 2·c[n·P + H] − c[n·P] − c[n·P + P] (R124). -/
def softBit (p h : Nat) (c : List Int) (n : Nat) : Int :=
  2 * c.getD (n * p + h) 0 - c.getD (n * p) 0 - c.getD (n * p + p) 0

/-- The soft-bit file of the window at a (R124). -/
def State.softBits (s : State) (a : Nat) : Vector Int 96 :=
  let c := runningSums 0 (s.powers a)
  tabulate 96 (softBit s.params.p s.params.half c)

/-- CORR a, host-issued or inside PROCESS: RANGE_ERR when the window does not fit the buffer, else the soft bits (R123, R124). -/
def State.corr (s : State) (a : Nat) : State :=
  if s.ls < a + s.params.win then s.raise .rangeErr
  else ((s.setSb (s.softBits a)).setCandOffset (BitVec.ofNat 28 a)).setFlags s.flags.cleared

/-- CORR a as a command (R85, R124). -/
def execCorr (a : Nat) (s : State) : Host.Outcome State Fault Refusal := .next (s.command fun t => t.corr a)

end Sys2Proof.Machine
end

