-- ==== Sys2Proof/Machine/Decoder.lean ====
section
/-! DEFINITION. The frame-field extractor and record output (45_decoder.md): DECODE and EMIT. -/

namespace Sys2Proof.Machine

/-- Whether the check accepts the payload: always without a verifier, else what VERIFY says (R181). -/
def State.verdict (s : State) : Bool :=
  match s.params.verifyMode with
  | .disabled => true
  | .enabled => Config.verify s.payload

/-- The VER port carries the payload only when there is a verifier (R50, R181). -/
def State.consult (s : State) : State :=
  match s.params.verifyMode with
  | .disabled => s
  | .enabled => s.askVerifier

/-- DECODE, host-issued or inside PROCESS, for a given verdict of the check (R184). -/
def State.decodeWith (s : State) (accept : Bool) : State :=
  match s.flags.matched, accept with
  | false, _ => s.setFlags s.flags.noCandidate
  | true, false => s.consult.setFlags s.flags.rejected
  | true, true =>
    (s.consult.setFields s.extracted).setFlags (s.flags.accepted (decide (s.params.verifyMode = .disabled)))

/-- DECODE (R184). -/
def State.decodeFrame (s : State) : State := s.decodeWith s.verdict

/-- DECODE as a command (R85, R184). -/
def execDecode (s : State) : Host.Outcome State Fault Refusal := .next (s.command State.decodeFrame)

/-- EMIT as a command: MODE = PROC while it holds, ACCUM otherwise (R85, R190). -/
def execEmit (s : State) : Host.Outcome State Fault Refusal :=
  .next (s.command fun t => t.emitThen .emitHold .accum)

end Sys2Proof.Machine
end

