-- ==== Sys2Proof/Machine/Pipeline.lean ====
section
/-! DEFINITION. The processing cycle (46_pipeline.md): PROC. -/

namespace Sys2Proof.Machine

/-- PROCESS begins: MODE becomes PROC and SCAN starts at u = 0 (R155, R210). Its moves are the engine's. -/
def State.startProcess (s : State) : State := s.setPhase (.scanOuter 0)

/-- PROC as a command: one processing cycle on the buffer, whatever ACC_LEN is (R85, R216). -/
def execProc (s : State) : Host.Outcome State Fault Refusal := .next (s.command State.startProcess)

end Sys2Proof.Machine
end

