-- ==== Sys2Proof/Machine/Slicer.lean ====
section
/-! DEFINITION. The bit slicer (43_slicer.md): SLICE. -/

namespace Sys2Proof.Machine

/-- SLICE: BV[n] is 1 exactly when SB[n] > 0, so a tie gives 0 (R140). -/
def State.slice (s : State) : State :=
  (s.setBv (tabulate 96 fun n => decide (0 < s.SB n))).setFlags s.flags.cleared

/-- SLICE as a command (R85, R140). -/
def execSlice (s : State) : Host.Outcome State Fault Refusal := .next (s.command State.slice)

end Sys2Proof.Machine
end

