-- ==== Sys2Proof/Machine/Synchronizer.lean ====
section
/-! DEFINITION. The preamble synchronizer (44_synchronizer.md): PMATCH, and the moves of SCAN. -/

namespace Sys2Proof.Machine

/-- Whether BV[0:21) is PREAMBLE, bit by bit (R150, R151). -/
def State.preambleMatch (s : State) : Bool :=
  (List.range 21).all fun i => s.BV i == s.params.preamble.toList.getD i false

/-- PMATCH, host-issued or inside PROCESS (R150). -/
def State.pmatch (s : State) : State := s.setFlags (s.flags.compared s.preambleMatch)

/-- PMATCH as a command (R85, R150). -/
def execPmatch (s : State) : Host.Outcome State Fault Refusal := .next (s.command State.pmatch)

/-- One evaluation of the scan: CORR, SLICE, PMATCH in that order (R158). -/
def State.evaluate (s : State) (a : Nat) : State := ((s.corr a).slice).pmatch

/-- The outer loop's test at u: while Ls − u ≥ SUBLEN − JUMP it draws the next sub-buffer, clipped to what is left; else SCAN
is over, the buffer is cleared and the engine is back in ACCUM (R155 to R157, R210). -/
def State.scanOuterMove (s : State) (u : Nat) : State :=
  if u + (s.params.subLen - s.params.jump) ≤ s.ls then
    s.setPhase (.scanInner u (min s.params.subLen (s.ls - u)) 0)
  else s.bufClear.setPhase .accum

/-- The inner loop's test at o: while o + 97·P ≤ Lsub it evaluates the window at u + o; a match is decoded at once and its
EMIT comes next, a miss moves o on by JUMP; else the outer cursor moves on by OSTRIDE (R155, R156, R158, R159, R160). -/
def State.scanInnerMove (s : State) (u lsub o : Nat) : State :=
  if o + s.params.win ≤ lsub then
    let t := s.evaluate (u + o)
    match t.flags.matched with
    | true => t.decodeFrame.setPhase (.scanEmit u lsub o)
    | false => t.setPhase (.scanInner u lsub (o + s.params.jump))
  else s.setPhase (.scanOuter (u + s.params.oStride))

/-- The EMIT after a match, holding while the FIFO is full; then o moves on by 96·P in all (R155, R159, R190, R277). -/
def State.scanEmitMove (s : State) (u lsub o : Nat) : State :=
  s.emitThen (.scanEmit u lsub o) (.scanInner u lsub (o + s.params.span))

end Sys2Proof.Machine
end

