-- ==== Sys2Proof/Machine/System.lean ====
section
/-! DEFINITION. The system commands (47_system.md): NOP and SRESET. -/

namespace Sys2Proof.Machine

/-- NOP as a command: no state changes in ACCUM, STATE_ERR otherwise (R230). -/
def execNop (s : State) : Host.Outcome State Fault Refusal := .next (s.command id)

/-- SRESET: in every MODE, the effect of the reset (R231). -/
def execSreset (s : State) : Host.Outcome State Fault Refusal := .next s.softReset

end Sys2Proof.Machine
end

