-- ==== Sys2Proof/Machine/Dispatch.lean ====
section
/-! DEFINITION. One arm per command. -/

namespace Sys2Proof.Machine

def exec (i : Instr) (s : State) : Host.Outcome State Fault Refusal :=
  match i with
  | .nop => Sys2Proof.Machine.execNop s
  | .corr a => Sys2Proof.Machine.execCorr a s
  | .slice => Sys2Proof.Machine.execSlice s
  | .pmatch => Sys2Proof.Machine.execPmatch s
  | .decode => Sys2Proof.Machine.execDecode s
  | .emit => Sys2Proof.Machine.execEmit s
  | .proc => Sys2Proof.Machine.execProc s
  | .clear => Sys2Proof.Machine.execClear s
  | .sreset => Sys2Proof.Machine.execSreset s

end Sys2Proof.Machine
end

