-- ==== Sys2Proof/Machine/Engine.lean ====
section
/-! DEFINITION. The engine's moves: what ERTCORE does by itself, one operation at a time (R71, R211). -/

namespace Sys2Proof.Machine

/-- The engine's next move. In ACCUM it accepts the oldest offered block (R100); HALTED it makes none (R244); in PROC it goes
on from where it is, and a hold that is not over changes nothing (R277). -/
def State.engineMove (s : State) : Host.Outcome State Fault Refusal :=
  match s.phase with
  | .accum =>
    match s.env.offers with
    | [] => .next s
    | b :: rest => .next ((s.setOffers rest).acceptBlock b)
  | .halted => .next s
  | .busy i => exec i (s.setPhase .accum)
  | .passHold _ => .next s
  | .passTaken b => .next (s.finishPush b)
  | .emitHold => .next (s.emitThen .emitHold .accum)
  | .scanOuter u => .next (s.scanOuterMove u)
  | .scanInner u lsub o => .next (s.scanInnerMove u lsub o)
  | .scanEmit u lsub o => .next (s.scanEmitMove u lsub o)

end Sys2Proof.Machine
end

