-- ==== Sys2Proof/Machine/HostPort.lean ====
section
/-! DEFINITION. The host's transactions: CSR reads and writes (R233, R234), commands (R85), takes (R214, R235), reset (R270),
and one turn of the machine. -/

namespace Sys2Proof.Machine

/-- What an aligned read shows: the register's word; while MODE = PROC the bits R72 leaves open are a free value. -/
def State.readValue (s : State) (offset : Nat) : Word :=
  match s.mode with
  | .accum => s.wordAt offset
  | .halted => s.wordAt offset
  | .proc =>
    (s.wordAt offset &&& ~~~openMaskAt offset) ||| (Config.anyRead s.env.freeReads &&& openMaskAt offset)

/-- An aligned CSR read: it changes no register (R48, R233). -/
def State.csrRead (s : State) (offset : Nat) : State :=
  let t := s.answer (.value (s.readValue offset))
  match s.mode with
  | .accum => t
  | .halted => t
  | .proc => t.countFreeRead

/-- A word written to CMD, executed at once: R85's dispatch. Each meaning makes its own mode check. -/
def State.writeCommand (s : State) (w : Word) : Host.Outcome State Fault Refusal :=
  match decodeWord w with
  | .illegal _ => .next (s.raise .illegalCmd)
  | .command i => exec i s

/-- R85 for an accepted command that takes time: MODE = PROC until the engine executes it (R275). SRESET does not wait (R231). -/
def State.acceptCommand (s : State) (i : Instr) : Host.Outcome State Fault Refusal :=
  match i with
  | .sreset => exec .sreset s
  | j => .next (s.command fun t => t.setPhase (.busy j))

/-- A word written to CMD whose command takes time (R85, R275). -/
def State.slowCommand (s : State) (w : Word) : Host.Outcome State Fault Refusal :=
  match decodeWord w with
  | .illegal _ => .next (s.raise .illegalCmd)
  | .command i => s.acceptCommand i

/-- An aligned CSR write (R234): in every MODE; read-only, reserved and unmapped bits ignore it. -/
def State.csrWrite (s : State) (offset : Nat) (v : Word) : Host.Outcome State Fault Refusal :=
  match csrAt offset with
  | some .status => .next (s.ackErrors v)
  | some .cmd => s.writeCommand v
  | some .userParam => .next (s.setUserParam v)
  | some .sbSel => .next (s.setSbSel (v.truncate 7))
  | _ => .next s

/-- A bus access at a window offset: an aligned 32-bit one is served, another is answered with a bus error and changes no
state (R67). -/
def State.csrAccess (s : State) (offset : Nat) (acc : Access) : Host.Outcome State Fault Refusal :=
  if 256 ≤ offset then .fault .outsideWindow
  else match acc with
    | .read bytes => if aligned32 offset bytes then .next (s.csrRead offset) else .next (s.answer .busError)
    | .write bytes v =>
      if aligned32 offset bytes then (s.answer .written).csrWrite offset v else .next (s.answer .busError)

/-- One turn: the event at the head of the agenda happens; `t` is the state with that event gone. A take with nothing to take
and a poll that reads BUSY = 1 stay at the head, and the engine moves meanwhile (R235, R275, R276). -/
def State.turn (s : State) (e : Event) (t : State) : Host.Outcome State Fault Refusal :=
  match e with
  | .engine => t.engineMove
  | .offer b => .next (t.setOffers (t.env.offers ++ [b]))
  | .withdraw => .next (t.setOffers [])
  | .takePass =>
    match s.phase with
    | .passHold b => .next (t.passOut b)
    | _ => s.engineMove
  | .takeRec =>
    match s.fifo with
    | r :: rest => .next ((t.setFifo rest).recTo r.words)
    | [] => s.engineMove
  | .poll => if s.mode = .proc then s.engineMove else .next t
  | .csr offset acc => t.csrAccess offset acc
  | .slowCmd w => (t.answer .written).slowCommand w
  | .platform addr acc =>
    match windowOffset s.params.csrBase addr with
    | none => .fault .outsideWindow
    | some offset => t.csrAccess offset acc
  | .rst => .next t.softReset

end Sys2Proof.Machine
end

