-- ==== Sys2Proof/Machine/Step.lean ====
section
/-! DEFINITION. One step of the machine. -/

namespace Sys2Proof.Machine

/-- One step: the next event of the agenda, or the engine's move when nothing is planned (R71, R283). -/
def step (s : State) : Host.Outcome State Fault Refusal :=
  match s.env.agenda with
  | [] => s.engineMove
  | e :: rest => s.turn e (s.setAgenda rest)

/-- The state whose next step writes the word to CMD: ERTCORE fetches nothing (R74), a command comes from the host. -/
def State.withFetchWord (s : State) (nbits w : Nat) : State :=
  s.setAgenda (.csr 0x08 (.write 4 (BitVec.ofNat 32 (w % 2 ^ nbits))) :: s.env.agenda)

end Sys2Proof.Machine
end

