-- ==== Sys2Proof/Machine/Assembler.lean ====
section
/-! DEFINITION. The host's lines (R86) and pseudo-instructions (R87): what each line makes the host do, and the text form of
the commands. -/

namespace Sys2Proof.Machine

/-- A line of a host program (R86, R87). -/
inductive HostLine where
  | cmd (i : Instr)
  /-- `.word`: a raw word to CMD. -/
  | word (w : Word)
  | push (b : Block)
  | wr (c : Csr) (v : Word)
  | rd (c : Csr)
  | takeRec
  | takePass
  /-- `EVAL a` -/
  | eval (a : Nat)
  /-- `TRY a` -/
  | tryAt (a : Nat)
  /-- `ACK m` -/
  | ack (m : Word)
deriving DecidableEq, Repr

/-- The commands of `EVAL a` (R87). -/
def evalCommands (a : Nat) : List Instr := [.corr a, .slice, .pmatch]

/-- The commands of `TRY a` (R87). -/
def tryCommands (a : Nat) : List Instr := [.corr a, .slice, .pmatch, .decode, .emit]

/-- A word written to CMD (R37). -/
def writeCmd (w : Word) : Event := .csr (Csr.offset .cmd) (.write 4 w)

/-- What a line makes the host do. A push is over when the engine has appended the block: the host takes the PASS block as soon
as it is offered (R86), and a block that is not well formed never gets there (R100). -/
def HostLine.events (c : Params) : HostLine → List Event
  | .cmd i => [writeCmd (encode i)]
  | .word w => [writeCmd w]
  | .push b => if c.wellFormedBlock b then [.offer b, .takePass, .engine] else [.offer b, .engine]
  | .wr c v => [.csr c.offset (.write 4 v)]
  | .rd c => [.csr c.offset (.read 4)]
  | .takeRec => [.takeRec]
  | .takePass => [.takePass]
  | .eval a => (evalCommands a).map fun i => writeCmd (encode i)
  | .tryAt a => (tryCommands a).map fun i => writeCmd (encode i)
  | .ack m => [.csr (Csr.offset .status) (.write 4 m)]

/-! ### Text -/

/-- Why a line does not assemble (R86). -/
inductive AsmError where
  | unknownWord
  | badNumber
  | operandOutOfRange
  | missingOperand
  | extraOperand
deriving DecidableEq, Repr

/-- The answer of the assembler: nothing on a blank line, the line, or an error. -/
inductive Assembled where
  | blank
  | line (l : HostLine)
  | error (e : AsmError)
deriving DecidableEq, Repr

/-- The text before a comment sign `;` (R86). -/
def beforeComment : List Char → List Char
  | [] => []
  | c :: cs => if c = ';' then [] else c :: beforeComment cs

/-- Whether a character separates words. -/
def separates (c : Char) : Bool := c = ' ' || c = '\t' || c = ','

/-- The words of a line: `cur` holds the word so far, last character first. -/
def wordsFrom (cur : List Char) : List Char → List (List Char)
  | [] => if cur = [] then [] else [cur.reverse]
  | c :: cs =>
    if separates c then (if cur = [] then wordsFrom [] cs else cur.reverse :: wordsFrom [] cs)
    else wordsFrom (c :: cur) cs

/-- A digit's value in a base up to 16. -/
def digit (base : Nat) (c : Char) : Option Nat :=
  let n := c.toNat
  let v := if 48 ≤ n ∧ n ≤ 57 then n - 48 else if 97 ≤ n ∧ n ≤ 102 then n - 87 else if 65 ≤ n ∧ n ≤ 70 then n - 55 else 16
  if v < base then some v else none

/-- The digits of a number in a base, most significant first, from a value so far. -/
def digits (base : Nat) : Nat → List Char → Option Nat
  | v, [] => some v
  | v, c :: cs =>
    match digit base c with
    | some d => digits base (base * v + d) cs
    | none => none

/-- An operand: decimal, or hexadecimal with prefix 0x (R86). -/
def number : List Char → Option Nat
  | ['0', 'x'] => none
  | '0' :: 'x' :: cs => digits 16 0 cs
  | [] => none
  | cs => digits 10 0 cs

/-- A capital letter's small form; another character is kept. -/
def lowerChar (c : Char) : Char := if 65 ≤ c.toNat ∧ c.toNat ≤ 90 then Char.ofNat (c.toNat + 32) else c

/-- Whether a word is a mnemonic, given in capitals, in upper or lower case (R86). -/
def isName (capitals w : List Char) : Bool := w = capitals || w = capitals.map lowerChar

/-- CSR names (10_state.md, section 3). -/
def csrNames : List (List Char × Csr) :=
  [(['I', 'D'], .id), (['S', 'T', 'A', 'T', 'U', 'S'], .status), (['C', 'M', 'D'], .cmd),
    (['A', 'C', 'C', '_', 'L', 'E', 'N'], .accLen),
    (['U', 'S', 'E', 'R', '_', 'P', 'A', 'R', 'A', 'M'], .userParam),
    (['B', 'V', '0'], .bv0), (['B', 'V', '1'], .bv1), (['B', 'V', '2'], .bv2),
    (['S', 'B', '_', 'S', 'E', 'L'], .sbSel), (['S', 'B', '_', 'D', 'A', 'T', 'A'], .sbData)] ++
  [(['M', 'E', 'T', 'E', 'R', '_', 'I', 'D'], .meterId), (['M', 'E', 'T', 'E', 'R', '_', 'T', 'Y', 'P', 'E'], .meterType),
    (['P', 'H', 'Y', 'S', '_', 'T', 'A', 'M', 'P', 'E', 'R'], .physTamper),
    (['E', 'N', 'C', '_', 'T', 'A', 'M', 'P', 'E', 'R'], .encTamper),
    (['C', 'O', 'N', 'S', 'U', 'M', 'P', 'T', 'I', 'O', 'N'], .consumption),
    (['A', 'L', 'T', '_', 'I', 'D'], .altId),
    (['C', 'A', 'N', 'D', '_', 'O', 'F', 'F', 'S', 'E', 'T'], .candOffset),
    (['R', 'E', 'C', '_', 'L', 'E', 'V', 'E', 'L'], .recLevel)]

/-- The register a name stands for. -/
def csrNamed (w : List Char) : Option Csr := (csrNames.find? fun e => e.1 = w).map fun e => e.2

/-- The commands without operand, by name (R83). -/
def plainNames : List (List Char × Instr) :=
  [(['N', 'O', 'P'], .nop), (['S', 'L', 'I', 'C', 'E'], .slice), (['P', 'M', 'A', 'T', 'C', 'H'], .pmatch),
    (['D', 'E', 'C', 'O', 'D', 'E'], .decode), (['E', 'M', 'I', 'T'], .emit), (['P', 'R', 'O', 'C'], .proc),
    (['C', 'L', 'E', 'A', 'R'], .clear), (['S', 'R', 'E', 'S', 'E', 'T'], .sreset)]

/-- The command without operand a word stands for. -/
def plainNamed (w : List Char) : Option Instr := (plainNames.find? fun e => isName e.1 w).map fun e => e.2

/-- A number below a bound, given to `f`; the bound is R86's for a sample index, 2^32 for a word. -/
def withNumber (w : List Char) (bound : Nat) (f : Nat → HostLine) : Assembled :=
  match number w with
  | none => .error .badNumber
  | some n => if n < bound then .line (f n) else .error .operandOutOfRange

/-- A line whose first word takes one sample index: CORR, EVAL and TRY (R86, R87). -/
def indexed (f : Nat → HostLine) : List (List Char) → Assembled
  | [] => .error .missingOperand
  | [w] => withNumber w (2 ^ 28) f
  | _ => .error .extraOperand

/-- A line whose first word takes one 32-bit value: .word and ACK (R86, R87). -/
def valued (f : Word → HostLine) : List (List Char) → Assembled
  | [] => .error .missingOperand
  | [w] => withNumber w (2 ^ 32) fun n => f (BitVec.ofNat 32 n)
  | _ => .error .extraOperand

/-- `wr <CSR>, <value>` (R86). -/
def writeLine : List (List Char) → Assembled
  | [c, v] =>
    match csrNamed c with
    | none => .error .unknownWord
    | some r => withNumber v (2 ^ 32) fun n => .wr r (BitVec.ofNat 32 n)
  | [] => .error .missingOperand
  | [_] => .error .missingOperand
  | _ => .error .extraOperand

/-- `rd <CSR>` (R86). -/
def readLine : List (List Char) → Assembled
  | [c] =>
    match csrNamed c with
    | none => .error .unknownWord
    | some r => .line (.rd r)
  | [] => .error .missingOperand
  | _ => .error .extraOperand

/-- `take REC` and `take PASS` (R86). -/
def takeLine : List (List Char) → Assembled
  | [w] =>
    if w = ['R', 'E', 'C'] then .line .takeRec
    else if w = ['P', 'A', 'S', 'S'] then .line .takePass
    else .error .unknownWord
  | [] => .error .missingOperand
  | _ => .error .extraOperand

/-- A line's words. A command without operand refuses one (R86). -/
def assembleWords : List (List Char) → Assembled
  | [] => .blank
  | w :: ops =>
    match plainNamed w with
    | some i => if ops = [] then .line (.cmd i) else .error .extraOperand
    | none =>
      if isName ['C', 'O', 'R', 'R'] w then indexed (fun a => .cmd (.corr a)) ops
      else if isName ['E', 'V', 'A', 'L'] w then indexed .eval ops
      else if isName ['T', 'R', 'Y'] w then indexed .tryAt ops
      else if isName ['A', 'C', 'K'] w then valued .ack ops
      else if w = ['.', 'w', 'o', 'r', 'd'] then valued .word ops
      else if w = ['w', 'r'] then writeLine ops
      else if w = ['r', 'd'] then readLine ops
      else if w = ['t', 'a', 'k', 'e'] then takeLine ops
      else .error .unknownWord

/-- One line of text (R86). `push` has no text form here: R86 names its block, it does not write it out. -/
def assembleLine (text : List Char) : Assembled := assembleWords (wordsFrom [] (beforeComment text))

end Sys2Proof.Machine
end

