-- ==== Sys2Proof/Safety.lean ====
section
/-! DEFINITION. The terms claims are stated in: the events of a step, the invariants a run keeps, the cumulative energy of R122
as a sum, PROCESS as R155 writes it, and how much work a scan has left. -/

namespace Sys2Proof.Machine

/-! ### Words used by claims -/

/-- c_a[k] = Σ_{j ≤ k} p_a[j] (R122). -/
def State.energy (s : State) (a k : Nat) : Int := ∑ j ∈ Finset.range (k + 1), s.power (a + j)

/-- Whether SCAN is under way (R210). -/
def Phase.scanning : Phase → Bool
  | .scanOuter _ => true
  | .scanInner _ _ _ => true
  | .scanEmit _ _ _ => true
  | .accum => false
  | .halted => false
  | .busy _ => false
  | .passHold _ => false
  | .passTaken _ => false
  | .emitHold => false

/-- The block a PUSH in progress has not yet appended (R278). -/
def Phase.block? : Phase → Option Block
  | .passHold b => some b
  | .passTaken b => some b
  | .accum => none
  | .halted => none
  | .busy _ => none
  | .emitHold => none
  | .scanOuter _ => none
  | .scanInner _ _ _ => none
  | .scanEmit _ _ _ => none

/-- The block on the PASS port, if there is one (R214). -/
def Phase.onPass : Phase → List Block
  | .passHold b => [b]
  | .passTaken _ => []
  | .accum => []
  | .halted => []
  | .busy _ => []
  | .emitHold => []
  | .scanOuter _ => []
  | .scanInner _ _ _ => []
  | .scanEmit _ _ _ => []

/-- The host's next event is a CSR access at a window offset, by that offset or by its platform address (R67, R68). -/
def State.accesses (s : State) (x : Nat) (acc : Access) (rest : List Event) : Prop :=
  s.env.agenda = .csr x acc :: rest ∨ s.env.agenda = .platform (s.params.csrBase + x) acc :: rest

/-- The host's next event is a write of a word to CMD, executed at once or later (R37, R275). -/
def State.writesCmd (s : State) (w : Word) (rest : List Event) : Prop :=
  s.accesses 0x08 (.write 4 w) rest ∨ s.env.agenda = .slowCmd w :: rest

/-- The next step is a move of the engine: nothing is planned, its turn is planned, or the host waits for it (R71, R235,
R275). -/
def State.engineTurn (s : State) : Prop :=
  match s.env.agenda with
  | [] => True
  | .engine :: _ => True
  | .takePass :: _ => ∀ b, s.phase ≠ .passHold b
  | .takeRec :: _ => s.fifo = []
  | .poll :: _ => s.mode = .proc
  | .offer _ :: _ => False
  | .withdraw :: _ => False
  | .csr _ _ :: _ => False
  | .slowCmd _ :: _ => False
  | .platform _ _ :: _ => False
  | .rst :: _ => False

/-- The next step performs a host-issued command: one written to CMD in ACCUM, or one accepted before (R85, R275). -/
def State.performs (s : State) (i : Instr) : Prop :=
  (s.mode = .accum ∧ ∃ w rest, s.accesses 0x08 (.write 4 w) rest ∧ decodeWord w = .command i) ∨
    (s.phase = .busy i ∧ s.engineTurn)

/-- The next step evaluates the window at a inside SCAN (R158). -/
def State.scansWindow (s : State) (a : Nat) : Prop :=
  s.engineTurn ∧ ∃ u lsub o, s.phase = .scanInner u lsub o ∧ o + 97 * s.params.p ≤ lsub ∧ a = u + o

/-- The next step is a reset: RST, or SRESET (R271). -/
def State.resets (s : State) : Prop :=
  (∃ rest, s.env.agenda = .rst :: rest) ∨ (∃ w rest, s.writesCmd w rest ∧ decodeWord w = .command .sreset) ∨
    (s.phase = .busy .sreset ∧ s.engineTurn)

/-- The state after `k` engine moves with nothing planned by the host: the machine run of Host/Core. -/
def runEngine (k : Nat) (s : State) : Host.Outcome State Fault Refusal :=
  Host.Core.run
    { State := State, Fault := Fault, Refusal := Refusal, step := step, reset := State.reset } k s

/-! ### Invariants -/

/-- The buffer: bytes at exactly the addresses below ACC_LEN, whole blocks, never over CAP (R60, R62, R65), and at or below
THRESH outside PROCESS (R101, R212). A block in a PUSH has BLOCKSIZE bytes (R100). -/
structure State.BufferInv (s : State) : Prop where
  dense : s.mem.map Prod.fst = List.range s.accLen
  wholeBlocks : s.accLen % s.params.blockSize = 0
  withinCap : s.accLen ≤ s.params.cap
  belowThreshold : s.phase.scanning = false → s.accLen ≤ s.params.thresh
  heldBlock : ∀ b, s.phase.block? = some b → b.length = s.params.blockSize

/-- Every soft bit fits a signed 32-bit register (R23, R126). -/
def State.SoftBitInv (s : State) : Prop := ∀ n < 96, -2 ^ 31 ≤ s.SB n ∧ s.SB n < 2 ^ 31

/-- The flags say what BV and the field registers hold (R150, R184, R187, R188, R196), and the FIFO respects its depth. -/
structure State.ResultInv (s : State) : Prop where
  matched_preamble : s.flags.matched = true → ∀ i < 21, s.BV i = s.params.preamble.toList.getD i false
  decOk_matched : s.flags.decOk = true → s.flags.matched = true
  vRej_matched : s.flags.vRej = true → s.flags.matched = true
  vRej_verifier : s.flags.vRej = true → s.params.verifyMode = .enabled
  notBoth : ¬ (s.flags.decOk = true ∧ s.flags.vRej = true)
  decOk_fields : s.flags.decOk = true → s.fields = s.extracted
  decOk_lowConf : s.flags.decOk = true → s.flags.lowConf = decide (s.params.verifyMode = .disabled)
  lowConf_disabled : s.flags.lowConf = true → s.params.verifyMode = .disabled
  depth : s.fifo.length ≤ s.params.recDepth
  records : ∀ r ∈ s.fifo, r.lowConf = decide (s.params.verifyMode = .disabled)

/-- BLOCK_ERR is set exactly while the engine is HALTED: both come from a malformed block and leave by reset only
(R22, R28, R244, R245). -/
def State.HaltInv (s : State) : Prop := s.errors.blockErr = true ↔ s.mode = .halted

/-- The scan's cursors stay inside the buffer (R157, R158, R161), and what is
decoded is the one window at u + o whose preamble matched (R160, R188). -/
def State.ScanInv (s : State) : Prop :=
  match s.phase with
  | .scanInner u lsub _ => lsub ≤ s.params.subLen ∧ u + lsub ≤ s.ls
  | .scanEmit u lsub o =>
    lsub ≤ s.params.subLen ∧ u + lsub ≤ s.ls ∧ o + s.params.win ≤ lsub ∧
      s.flags.matched = true ∧ s.candOffset = BitVec.ofNat 28 (u + o) ∧
      ∀ n < 96, s.BV n = decide (0 < (s.softBits (u + o)).toList.getD n 0)
  | .emitHold => s.flags.decOk = true
  | _ => True

/-- Everything a run keeps. -/
structure State.Inv (s : State) : Prop where
  buffer : s.BufferInv
  softBits : s.SoftBitInv
  results : s.ResultInv
  halt : s.HaltInv
  scan : s.ScanInv

/-- The host's plan holds no bus access outside ERTCORE's window: the one cause of a fault (R67). -/
def State.staysInWindow (s : State) : Prop :=
  ∀ e ∈ s.env.agenda, match e with
    | .csr offset _ => offset < 256
    | .platform addr _ => s.params.csrBase ≤ addr ∧ addr < s.params.csrBase + 256
    | _ => True

/-! ### SCAN as R155 writes it -/

/-- EMIT where the FIFO has room: the record of an accepted decode is sent (R190). -/
def State.emitFree (s : State) : State := if s.flags.decOk then s.sendRecord else s

/-- The inner loop of R155 from cursor o, with a bound on its iterations. -/
def State.innerLoop : Nat → Nat → Nat → Nat → State → State
  | 0, _, _, _, s => s
  | fuel + 1, u, lsub, o, s =>
    if o + 97 * s.params.p ≤ lsub then
      let t := ((s.corr (u + o)).slice).pmatch
      if t.flags.matched then
        State.innerLoop fuel u lsub (o + 96 * s.params.p) t.decodeFrame.emitFree
      else State.innerLoop fuel u lsub (o + s.params.jump) t
    else s

/-- The outer loop of R155 from cursor u, with a bound on its iterations. -/
def State.outerLoop : Nat → Nat → State → State
  | 0, _, s => s
  | fuel + 1, u, s =>
    if u + (s.params.subLen - s.params.jump) ≤ s.ls then
      let lsub := min s.params.subLen (s.ls - u)
      State.outerLoop fuel (u + 96 * s.params.jump) (State.innerLoop (lsub + 1) u lsub 0 s)
    else s

/-- SCAN() over the whole buffer (R155): u starts at 0; the bounds are above what R162 counts. -/
def State.scanAll (s : State) : State := State.outerLoop (s.ls + 1) 0 s

/-! ### The scan's work -/

/-- How many engine moves a scan can still make, at most (R162): 0 when no scan is under way. -/
def State.scanWork (s : State) : Nat :=
  let m := 2 * s.params.subLen + 10
  match s.phase with
  | .scanOuter u => (s.ls + s.params.oStride + 1 - u) * m + 1
  | .scanInner u lsub o => (s.ls + s.params.oStride - u) * m + 2 * (lsub + 1 - o) + 2
  | .scanEmit u lsub o => (s.ls + s.params.oStride - u) * m + 2 * (lsub + 1 - o) + 1
  | _ => 0

/-- A hold of the scan: EMIT waits for FIFO space (R277). -/
def State.scanHolds (s : State) : Prop :=
  (∃ u lsub o, s.phase = .scanEmit u lsub o) ∧ s.flags.decOk = true ∧ s.params.recDepth ≤ s.fifo.length

end Sys2Proof.Machine
end

