-- ==== Sys2Proof/Certificates/Slice0/Obligations.lean ====
section
/-! DEFINITION. The statements about ERTCORE, each with the rule of spec/ it says. -/

open Sys2Proof Sys2Proof.Machine

/-! ### Encoding -/

/-- R80, R82, R83: the word of a well-formed command decodes to it, CORR with every operand. -/
def Obligations.DecodeOfEncodedCommand : Prop :=
  ∀ i : Instr, i.wellFormed = true → decodeWord (encode i) = .command i

/-- R81, R83: a word that decodes to a command is that command's word, so every command has one word. -/
def Obligations.EncodeOfDecodedWord : Prop :=
  ∀ (w : Word) (i : Instr), decodeWord w = .command i → i.wellFormed = true ∧ encode i = w

/-- R83, R84: the words of the opcode map and some illegal ones. -/
def Obligations.OpcodeMapWords : Prop :=
  decodeWord 0x00000000 = .command .nop ∧ decodeWord 0x10000003 = .command (.corr 3) ∧
  decodeWord 0x1FFFFFFF = .command (.corr 268435455) ∧ decodeWord 0x20000000 = .command .slice ∧
  decodeWord 0x30000000 = .command .pmatch ∧ decodeWord 0x40000000 = .command .decode ∧
  decodeWord 0x50000000 = .command .emit ∧ decodeWord 0x60000000 = .command .proc ∧
  decodeWord 0x70000000 = .command .clear ∧ decodeWord 0x80000000 = .command .sreset ∧
  decodeWord 0x90000000 = .illegal (.reservedOp 9) ∧ decodeWord 0x20000001 = .illegal (.nonzeroArg 2) ∧
  decodeWord 0x80000001 = .illegal (.nonzeroArg 8) ∧ decodeWord 0xF0000000 = .illegal (.reservedOp 15)

/-! ### Steps and dispatch -/

/-- R85: a step that writes to CMD, by window offset or platform address, a word which decodes to a command runs that command's
meaning; the event leaves the host's plan and the bus answers. -/
def Obligations.StepRunsWrittenCommand : Prop :=
  ∀ (s : State) (w : Word) (i : Instr) (rest : List Event),
    s.accesses 0x08 (.write 4 w) rest → decodeWord w = .command i →
    step s = exec i ((s.setAgenda rest).answer .written)

/-- R85, R68: the dispatch of a CMD write, by window offset or platform address, in its order; the dispatched command finds
MODE = ACCUM. -/
def Obligations.CmdWriteDispatchOrder : Prop :=
  ∀ (s : State) (w : Word) (rest : List Event), s.accesses 0x08 (.write 4 w) rest →
    let op := (w.extractLsb 31 28).toNat
    let arg := (w.extractLsb 27 0).toNat
    let p := (s.setAgenda rest).answer .written
    if 0x9 ≤ op ∨ (op ≠ 0x1 ∧ arg ≠ 0) then
      step s = .next { p with errors := { p.errors with illegalCmd := true } }
    else if op = 0x8 then step s = exec .sreset p
    else if s.mode ≠ .accum then step s = .next { p with errors := { p.errors with stateErr := true } }
    else step s = exec (if op = 0x0 then .nop else if op = 0x1 then .corr arg else if op = 0x2 then .slice
      else if op = 0x3 then .pmatch else if op = 0x4 then .decode else if op = 0x5 then .emit
      else if op = 0x6 then .proc else .clear) p

/-- R84: a word with OP in 0x9..0xF, or with OP ≠ 0x1 and ARG ≠ 0, is illegal, and no other word is; writing it to CMD, in
whatever way and in every MODE, sets ILLEGAL_CMD and has no other effect (the bus's answer and the host's plan are the host's). -/
def Obligations.IllegalWordOnlySetsFlag : Prop :=
  (∀ w : Word, (∃ r, decodeWord w = .illegal r) ↔
    (0x9 ≤ (w.extractLsb 31 28).toNat ∨ ((w.extractLsb 31 28).toNat ≠ 0x1 ∧ (w.extractLsb 27 0).toNat ≠ 0))) ∧
  ∀ (s : State) (w : Word) (rest : List Event), s.writesCmd w rest →
    (0x9 ≤ (w.extractLsb 31 28).toNat ∨ ((w.extractLsb 31 28).toNat ≠ 0x1 ∧ (w.extractLsb 27 0).toNat ≠ 0)) →
    ∃ t, step s = .next t ∧ t.errors = { s.errors with illegalCmd := true } ∧
      t = { s with errors := t.errors, env := t.env } ∧
      t.env = { s.env with agenda := rest, answers := s.env.answers ++ [.written] }

/-- R85, R241: a legal command other than SRESET outside MODE = ACCUM sets STATE_ERR and changes nothing else. -/
def Obligations.CommandOutsideAccumRaisesStateErr : Prop :=
  ∀ (i : Instr) (s : State), i ≠ .sreset → s.mode ≠ .accum →
    exec i s = .next { s with errors := { s.errors with stateErr := true } }

/-- R85, R231, R275: a command that takes time is accepted with MODE = PROC and executed, as the command it is, at the engine's
next move; a command written meanwhile raises STATE_ERR; SRESET does not wait, in any MODE. That a command which takes time is
an event of its own and runs in one later move is the model's choice (log entry 4). -/
def Obligations.SlowCommandRunsLater : Prop :=
  (∀ (s : State) (w : Word) (i : Instr) (rest : List Event),
    s.env.agenda = .slowCmd w :: rest → decodeWord w = .command i →
    let p := (s.setAgenda rest).answer .written
    (i = .sreset → step s = exec .sreset p) ∧
    (i ≠ .sreset → s.mode = .accum → ∃ t, step s = .next t ∧ t = { p with phase := .busy i } ∧ t.mode = .proc) ∧
    (i ≠ .sreset → s.mode ≠ .accum → step s = .next { p with errors := { p.errors with stateErr := true } })) ∧
  (∀ (s : State) (i : Instr), s.phase = .busy i → s.env.agenda = [] → step s = exec i { s with phase := .accum }) ∧
  (∀ (s : State) (i : Instr) (rest : List Event), s.phase = .busy i → s.env.agenda = .engine :: rest →
    step s = exec i { s.setAgenda rest with phase := .accum })

/-! ### NOP, CLEAR, SRESET -/

/-- R230: NOP's word is 0x00000000 and a non-zero ARG makes it illegal; in ACCUM no state changes; in PROC and HALTED it
raises STATE_ERR. -/
def Obligations.NopChangesNothing : Prop :=
  decodeWord 0x00000000 = .command .nop ∧
  (∀ w : Word, (w.extractLsb 31 28).toNat = 0 → w.extractLsb 27 0 ≠ 0 → decodeWord w = .illegal (.nonzeroArg 0)) ∧
  (∀ s : State, s.mode = .accum → exec .nop s = .next s) ∧
  (∀ s : State, s.mode ≠ .accum → exec .nop s = .next { s with errors := { s.errors with stateErr := true } })

/-- R66, R105: CLEAR empties the buffer and keeps everything else. -/
def Obligations.ClearEmptiesBuffer : Prop :=
  ∀ s : State, s.mode = .accum →
    ∃ t, exec .clear s = .next t ∧ t.accLen = 0 ∧ (∀ a, t.mem.read a = none) ∧
      t = { s with mem := [], accLen := 0 }

/-- R51, R231, R270: SRESET, in every MODE, gives every piece of state its reset value, STATUS reading 0, and so does RST. The
host's side of the ports is the host's, and the build stays. -/
def Obligations.SresetResetsEverything : Prop :=
  (∀ s : State, ∃ t, exec .sreset s = .next t ∧
    t.mode = .accum ∧ t.phase = .accum ∧ (∀ a, t.mem.read a = none) ∧ t.accLen = 0 ∧
    (∀ n < 96, t.SB n = 0) ∧ (∀ n < 96, t.BV n = false) ∧
    t.fields.meterId = 0 ∧ t.fields.meterType = 0 ∧ t.fields.physTamper = 0 ∧ t.fields.encTamper = 0 ∧
    t.fields.consumption = 0 ∧ t.fields.altId = 0 ∧ t.candOffset = 0 ∧
    t.flags.matched = false ∧ t.flags.decOk = false ∧ t.flags.lowConf = false ∧ t.flags.vRej = false ∧
    t.errors.illegalCmd = false ∧ t.errors.rangeErr = false ∧ t.errors.stateErr = false ∧ t.errors.blockErr = false ∧
    t.fifo = [] ∧ t.userParam = s.params.userParamInit ∧ t.sbSel = 0 ∧ t.statusWord = 0 ∧
    t.build = s.build ∧ t.env = s.env) ∧
  (∀ (s : State) (rest : List Event), s.env.agenda = .rst :: rest → step s = exec .sreset (s.setAgenda rest))

/-- R51, R270: what reset leaves, for every build. -/
def Obligations.ResetValues : Prop :=
  ∀ b : Build, let s := State.resetWith b
    s.build = b ∧ s.mode = .accum ∧ (∀ a, s.mem.read a = none) ∧ s.accLen = 0 ∧ (∀ n < 96, s.SB n = 0 ∧ s.BV n = false) ∧
    s.fields.meterId = 0 ∧ s.fields.meterType = 0 ∧ s.fields.physTamper = 0 ∧ s.fields.encTamper = 0 ∧
    s.fields.consumption = 0 ∧ s.fields.altId = 0 ∧
    s.candOffset = 0 ∧ s.flags = { matched := false, decOk := false, lowConf := false, vRej := false } ∧
    s.errors = { illegalCmd := false, rangeErr := false, stateErr := false, blockErr := false } ∧
    s.fifo = [] ∧ s.userParam = b.params.userParamInit ∧ s.sbSel = 0

/-! ### CORR -/

/-- R122, R124: CORR of a window that fits writes SB[n] = 2·c[n·P + H] − c[n·P] − c[n·P + P] and CAND_OFFSET, clears MATCH,
DEC_OK and VREJ, and keeps everything else. -/
def Obligations.CorrWritesSoftBits : Prop :=
  ∀ (s : State) (a : Nat), s.mode = .accum → a + 97 * s.params.p ≤ s.ls →
    ∃ t, exec (.corr a) s = .next t ∧
      (∀ n < 96, t.SB n = 2 * s.energy a (n * s.params.p + s.params.p / 2) - s.energy a (n * s.params.p)
        - s.energy a (n * s.params.p + s.params.p)) ∧
      (∀ x, t.mem.read x = s.mem.read x) ∧
      t = { s with
        sb := t.sb
        candOffset := BitVec.ofNat 28 a
        flags := { s.flags with matched := false, decOk := false, vRej := false } }

/-- R125: the closed form of the soft bits, by sums over window samples n·P + 1 .. n·P + P; p_a[0] takes no part. -/
def Obligations.CorrClosedForm : Prop :=
  ∀ (s t : State) (a n : Nat), s.mode = .accum → a + 97 * s.params.p ≤ s.ls → n < 96 →
    exec (.corr a) s = .next t →
    t.SB n = (∑ j ∈ Finset.Icc (n * s.params.p + 1) (n * s.params.p + s.params.p / 2), s.power (a + j))
      - ∑ j ∈ Finset.Icc (n * s.params.p + s.params.p / 2 + 1) (n * s.params.p + s.params.p), s.power (a + j)

/-- R123, R124: CORR of a window that does not fit sets RANGE_ERR and changes nothing else. -/
def Obligations.CorrOutsideBufferRaisesRangeErr : Prop :=
  ∀ (s : State) (a : Nat), s.mode = .accum → s.ls < a + 97 * s.params.p →
    exec (.corr a) s = .next { s with errors := { s.errors with rangeErr := true } }

/-- R126: the range of a soft bit: |SB[n]| ≤ 130050 × (P − H) ≤ 130050 × 16384 < 2^31 for every build. -/
def Obligations.SoftBitsFitTheirRegister : Prop :=
  ∀ (s t : State) (a n : Nat), s.mode = .accum → a + 97 * s.params.p ≤ s.ls → n < 96 →
    exec (.corr a) s = .next t →
    |t.SB n| ≤ 130050 * ((s.params.p - s.params.p / 2 : Nat) : Int) ∧
      130050 * ((s.params.p - s.params.p / 2 : Nat) : Int) ≤ 130050 * 16384 ∧ (130050 * 16384 : Int) < 2 ^ 31

/-- R127: a slot of constant power q gives −q when P is odd, where P − H = H + 1, and 0 when P is even; either way the slicer
makes it a 0. -/
def Obligations.ConstantPowerSlot : Prop :=
  ∀ (s t u : State) (a n : Nat) (q : Int), s.mode = .accum → a + 97 * s.params.p ≤ s.ls → n < 96 →
    (∀ j, n * s.params.p + 1 ≤ j → j ≤ n * s.params.p + s.params.p → s.power (a + j) = q) →
    exec (.corr a) s = .next t → exec .slice t = .next u →
    (s.params.p % 2 = 1 → s.params.p - s.params.p / 2 = s.params.p / 2 + 1 ∧ t.SB n = -q) ∧
      (s.params.p % 2 = 0 → t.SB n = 0) ∧ u.BV n = false

/-- R61, R63, R120: the power of a sample, from the two bytes of the buffer it pairs. -/
def Obligations.PowerOfBufferBytes : Prop :=
  ∀ (s : State) (k : Nat) (i q : Byte), s.mem.read (2 * k) = some i → s.mem.read (2 * k + 1) = some q →
    s.sample k = ((i.toNat : Int) - s.params.bias, (q.toNat : Int) - s.params.bias) ∧
    s.power k = ((i.toNat : Int) - s.params.bias) ^ 2 + ((q.toNat : Int) - s.params.bias) ^ 2 ∧
    0 ≤ s.power k ∧ s.power k ≤ 130050

/-! ### SLICE and PMATCH -/

/-- R140: SLICE makes BV[n] the sign of SB[n], a tie giving 0, clears MATCH, DEC_OK and VREJ, and keeps everything else. -/
def Obligations.SliceTakesSigns : Prop :=
  ∀ s : State, s.mode = .accum →
    ∃ t, exec .slice s = .next t ∧
      (∀ n < 96, t.BV n = if 0 < s.SB n then true else false) ∧
      (∀ x, t.mem.read x = s.mem.read x) ∧
      t = { s with
        bv := t.bv
        flags := { s.flags with matched := false, decOk := false, vRej := false } }

/-- R141: a SLICE after a SLICE, the soft bits being the same, writes the same BV and changes nothing but the cleared flags. -/
def Obligations.SliceIsIdempotent : Prop :=
  ∀ s t u : State, s.mode = .accum → exec .slice s = .next t → u.mode = .accum → u.sb = t.sb → u.bv = t.bv →
    exec .slice u = .next { u with flags := { u.flags with matched := false, decOk := false, vRej := false } }

/-- R150: PMATCH sets MATCH exactly when BV[i] = PREAMBLE[i] for every i in 0 .. 20, clears DEC_OK and VREJ, and keeps
everything else. -/
def Obligations.PmatchComparesPreamble : Prop :=
  ∀ s : State, s.mode = .accum →
    ∃ t, exec .pmatch s = .next t ∧
      (t.flags.matched = true ↔ ∀ i < 21, s.BV i = s.params.preamble.toList.getD i false) ∧
      (∀ x, t.mem.read x = s.mem.read x) ∧
      t = { s with flags := { s.flags with matched := t.flags.matched, decOk := false, vRej := false } }

/-! ### DECODE -/

/-- R184, R185, R186, R187: DECODE of a match with no verifier extracts every field from the window's bits, marks it LOWCONF,
sets DEC_OK, clears VREJ, calls nothing, and keeps everything else; with ALT_ID_LSB_START = 56 ALT_ID equals METER_ID. -/
def Obligations.DecodeExtractsFields : Prop :=
  ∀ s : State, s.mode = .accum → s.flags.matched = true → s.params.verifyMode = .disabled →
    ∃ t, exec .decode s = .next t ∧
      t.fields.meterId.toNat = val (span s.bits 21 23 ++ span s.bits 56 80) ∧
      t.fields.physTamper.toNat = val (span s.bits 24 26) ∧
      t.fields.meterType.toNat = val (span s.bits 26 30) ∧
      t.fields.encTamper.toNat = val (span s.bits 30 32) ∧
      t.fields.consumption.toNat = val (span s.bits 32 56) ∧
      t.fields.altId.toNat = val (span s.bits 21 23 ++ span s.bits s.params.altStart.bit (s.params.altStart.bit + 24)) ∧
      (s.params.altStart = .at56 → t.fields.altId = t.fields.meterId) ∧
      (∀ x, t.mem.read x = s.mem.read x) ∧
      t = { s with
        fields := t.fields
        flags := { s.flags with decOk := true, vRej := false, lowConf := true } }

/-- R181, R184: DECODE of a match with a verifier sends the 75 payload bits to it, and either accepts, as without one but with
LOWCONF = 0, or is rejected: DEC_OK = 0, VREJ = 1 and nothing extracted. -/
def Obligations.DecodeAsksVerifier : Prop :=
  ∀ s : State, s.mode = .accum → s.flags.matched = true → s.params.verifyMode = .enabled →
    ∃ t, exec .decode s = .next t ∧
      t.env = { s.env with verCalls := s.env.verCalls ++ [s.payload] } ∧
      (∀ i < 75, s.payload.toList.getD i false = s.BV (21 + i)) ∧
      t = { s with
        fields := if Config.verify s.payload then s.extracted else s.fields
        flags := if Config.verify s.payload then { s.flags with decOk := true, vRej := false, lowConf := false }
          else { s.flags with decOk := false, vRej := true }
        env := t.env }

/-- R184: DECODE without a match clears DEC_OK and VREJ and keeps everything else. -/
def Obligations.DecodeNeedsMatch : Prop :=
  ∀ s : State, s.mode = .accum → s.flags.matched = false →
    exec .decode s = .next { s with flags := { s.flags with decOk := false, vRej := false } }

/-- R184: bits BV[23] and BV[80..95] are never extracted: windows that differ only there, and in the preamble, decode alike. -/
def Obligations.UnextractedBitsDoNotMatter : Prop :=
  ∀ (s : State) (v : Vector Bool 96) (t t' : State), s.mode = .accum → s.flags.matched = true →
    s.params.verifyMode = .disabled →
    (∀ n, 21 ≤ n → n < 80 → n ≠ 23 → v.toList.getD n false = s.BV n) →
    exec .decode s = .next t → exec .decode { s with bv := v } = .next t' →
    t'.fields = t.fields ∧ t'.flags = t.flags

/-! ### EMIT, records and the FIFO -/

/-- R190: EMIT with DEC_OK = 0 does nothing; EMIT of an accepted decode, the FIFO having room, appends its record at the tail,
clears DEC_OK, stays in ACCUM and keeps everything else. -/
def Obligations.EmitSendsRecord : Prop :=
  (∀ s : State, s.mode = .accum → s.flags.decOk = false → exec .emit s = .next s) ∧
  ∀ s : State, s.mode = .accum → s.flags.decOk = true → s.fifo.length < s.params.recDepth →
    ∃ t r, exec .emit s = .next t ∧ t.fifo = s.fifo ++ [r] ∧
      r.meterId = s.fields.meterId ∧ r.meterType = s.fields.meterType ∧ r.physTamper = s.fields.physTamper ∧
      r.encTamper = s.fields.encTamper ∧ r.consumption = s.fields.consumption ∧ r.lowConf = s.flags.lowConf ∧
      r.startOffset = s.candOffset ∧
      (∀ x, t.mem.read x = s.mem.read x) ∧
      t = { s with fifo := t.fifo, flags := { s.flags with decOk := false } }

/-- R190, R235, R277: EMIT with the FIFO full holds: MODE = PROC and nothing is pushed. The engine stays there until a record is
taken; the host's take brings it the head record as its three words, and at the engine's next move the held record enters at
the tail and MODE is ACCUM again. -/
def Obligations.EmitHoldsWhileFull : Prop :=
  (∀ s : State, s.mode = .accum → s.flags.decOk = true → s.fifo.length = s.params.recDepth →
    ∃ t, exec .emit s = .next t ∧ t.mode = .proc ∧ t = { s with phase := .emitHold }) ∧
  (∀ s : State, s.phase = .emitHold → s.flags.decOk = true → s.params.recDepth ≤ s.fifo.length → s.env.agenda = [] →
    step s = .next s) ∧
  ∀ (s : State) (r : Record) (rs : List Record) (rest : List Event),
    s.phase = .emitHold → s.flags.decOk = true → s.fifo = r :: rs → s.fifo.length = s.params.recDepth →
    s.env.agenda = .takeRec :: .engine :: rest →
    ∃ t u, step s = .next t ∧ step t = .next u ∧
      u = { s with
        phase := .accum
        fifo := rs ++ [s.record]
        flags := { s.flags with decOk := false }
        env := { s.env with agenda := rest, recGot := s.env.recGot ++ [r.words] } }

/-- R195: the words of a record, field by field. -/
def Obligations.RecordWordLayout : Prop :=
  ∀ r : Record,
    r.words.w0.extractLsb 25 0 = r.meterId ∧ r.words.w0.extractLsb 29 26 = r.meterType ∧
    r.words.w0.extractLsb 31 30 = 0 ∧
    r.words.w1.extractLsb 23 0 = r.consumption ∧ r.words.w1.extractLsb 25 24 = r.physTamper ∧
    r.words.w1.extractLsb 27 26 = r.encTamper ∧ r.words.w1.getLsbD 28 = r.lowConf ∧
    r.words.w1.extractLsb 31 29 = 0 ∧
    r.words.w2.extractLsb 27 0 = r.startOffset ∧ r.words.w2.extractLsb 31 28 = 0

/-- R235: a take with a record there moves the head record to the host, in every MODE; with none it waits and the engine
moves. -/
def Obligations.TakeRecord : Prop :=
  (∀ (s : State) (r : Record) (rs : List Record) (rest : List Event),
    s.env.agenda = .takeRec :: rest → s.fifo = r :: rs →
    step s = .next { s with fifo := rs, env := { s.env with agenda := rest, recGot := s.env.recGot ++ [r.words] } }) ∧
  (∀ (s : State) (rest : List Event), s.env.agenda = .takeRec :: rest → s.fifo = [] → step s = s.engineMove)

/-- R29, R196: what can happen to the FIFO in a step: nothing, the head taken by the host, a record of an accepted decode at the
tail with room for it, or a reset. A record in it never changes. -/
def Obligations.FifoMoves : Prop :=
  ∀ s t : State, step s = .next t →
    t.fifo = s.fifo ∨ (∃ r, s.fifo = r :: t.fifo ∧ t.env.recGot = s.env.recGot ++ [r.words]) ∨
    (s.flags.decOk = true ∧ s.fifo.length < s.params.recDepth ∧ t.fifo = s.fifo ++ [s.record] ∧ t.flags.decOk = false) ∨
    (t.fifo = [] ∧ t = { State.resetWith s.build with env := t.env })

/-! ### PUSH -/

/-- R100, R214, R278: the engine takes an offered block of BLOCKSIZE bytes and puts it on the PASS port, MODE = PROC; nothing
else changes, and nothing happens until the host takes it. -/
def Obligations.PushGoesToPassFirst : Prop :=
  (∀ (s : State) (b : Block) (bs : List Block) (rest : List Event),
    s.mode = .accum → s.env.agenda = .engine :: rest → s.env.offers = b :: bs → b.length = s.params.blockSize →
    ∃ t, step s = .next t ∧ t.mode = .proc ∧
      t = { s with phase := .passHold b, env := { s.env with agenda := rest, offers := bs } }) ∧
  (∀ (s : State) (b : Block), s.phase = .passHold b → s.env.agenda = [] → step s = .next s) ∧
  (∀ (s : State) (b : Block) (rest : List Event), s.phase = .passHold b → s.env.agenda = .takePass :: rest →
    step s = .next { s with
      phase := .passTaken b
      env := { s.env with agenda := rest, passGot := s.env.passGot ++ [b] } })

/-- R100, R241, R244: a block of another length sets BLOCK_ERR and halts the engine; it is discarded, neither passed through
nor appended. -/
def Obligations.MalformedBlockHalts : Prop :=
  ∀ (s : State) (b : Block) (bs : List Block) (rest : List Event),
    s.mode = .accum → s.env.agenda = .engine :: rest → s.env.offers = b :: bs → b.length ≠ s.params.blockSize →
    ∃ t, step s = .next t ∧ t.mode = .halted ∧
      t = { s with
        phase := .halted
        errors := { s.errors with blockErr := true }
        env := { s.env with agenda := rest, offers := bs } }

/-- R64, R100, R101, R210: once the block is passed it is appended at the end of raw and ACC_LEN grows by BLOCKSIZE; PROCESS
starts exactly when ACC_LEN then exceeds THRESH. Every other byte and every register stays.
The block that starts PROCESS is the one after NACC blocks (R102). -/
def Obligations.PushAppendsBlock : Prop :=
  ∀ (s : State) (b : Block), s.BufferInv → s.phase = .passTaken b → s.env.agenda = [] →
    ∃ t, step s = .next t ∧ t.accLen = s.accLen + s.params.blockSize ∧
      (∀ i < b.length, t.mem.read (s.accLen + i) = b[i]?) ∧
      (∀ x, (x < s.accLen ∨ s.accLen + b.length ≤ x) → t.mem.read x = s.mem.read x) ∧
      t.phase = (if s.params.blockSize * s.params.nacc < s.accLen + s.params.blockSize then .scanOuter 0 else .accum) ∧
      (t.phase = .scanOuter 0 ↔ s.accLen = s.params.nacc * s.params.blockSize) ∧
      t = { s with phase := t.phase, mem := t.mem, accLen := t.accLen }

/-- R218: pass-through: while blocks are taken and passed, the blocks the host has received, the one on the PASS port and
those still offered are together the same sequence. (Offers, withdrawals and resets are the host's; the hypothesis on offers
leaves out the malformed block, which R100 discards.) -/
def Obligations.PassThroughKeepsEveryBlock : Prop :=
  ∀ s t : State,
    (s.env.agenda = [] ∨ ∃ e rest, s.env.agenda = e :: rest ∧ (e = .engine ∨ e = .takePass ∨ e = .takeRec ∨ e = .poll)) →
    s.phase ≠ .busy .sreset → (∀ b bs, s.env.offers = b :: bs → b.length = s.params.blockSize) → step s = .next t →
    t.env.passGot ++ t.phase.onPass ++ t.env.offers = s.env.passGot ++ s.phase.onPass ++ s.env.offers

/-- R22, R244: a halted engine makes no move, and HALTED is left by RST or SRESET only. Every other step from HALTED keeps the
buffer, SB, BV, the field registers, CAND_OFFSET, the status flags and BLOCK_ERR; the FIFO loses at most its head, to a host
take; and no block is accepted or passed on: the offered blocks change only by the host's own offer or withdrawal. (The host may
still write USER_PARAM and SB_SEL, clear W1C flags, and set ILLEGAL_CMD and STATE_ERR by writing commands.) -/
def Obligations.HaltedUntilReset : Prop :=
  (∀ s : State, s.mode = .halted → s.engineMove = .next s) ∧
  (∀ s : State, s.mode = .halted → s.env.agenda = [] → step s = .next s) ∧
  ∀ s t : State, s.mode = .halted → step s = .next t →
    (t.mode = .halted ∧ t.mem = s.mem ∧ t.accLen = s.accLen ∧ t.sb = s.sb ∧ t.bv = s.bv ∧ t.fields = s.fields ∧
      t.candOffset = s.candOffset ∧ t.flags = s.flags ∧ t.errors.blockErr = s.errors.blockErr ∧
      t.env.passGot = s.env.passGot ∧ t.env.verCalls = s.env.verCalls ∧
      (t.fifo = s.fifo ∨ ∃ r rest, s.env.agenda = .takeRec :: rest ∧ s.fifo = r :: t.fifo ∧
        t.env.recGot = s.env.recGot ++ [r.words]) ∧
      (t.env.offers = s.env.offers ∨
        (∃ b rest, s.env.agenda = .offer b :: rest ∧ t.env.offers = s.env.offers ++ [b]) ∨
        (∃ rest, s.env.agenda = .withdraw :: rest ∧ t.env.offers = []))) ∨
    (s.resets ∧ t = { State.resetWith s.build with env := t.env })

/-! ### PROC and SCAN -/

/-- R210, R216: PROC starts a PROCESS, whatever ACC_LEN is: MODE = PROC with u = 0 and everything else as it was. -/
def Obligations.ProcStartsProcess : Prop :=
  ∀ s : State, s.mode = .accum →
    ∃ t, exec .proc s = .next t ∧ t.mode = .proc ∧ (∀ x, t.mem.read x = s.mem.read x) ∧ t = { s with phase := .scanOuter 0 }

/-- R158, R159, R160: an inner step runs while o + 97·P ≤ Lsub and is CORR(u + o), SLICE, PMATCH; a miss moves o on by JUMP, a
match is decoded; when it ends, u moves on by 96·JUMP. -/
def Obligations.InnerLoopMove : Prop :=
  ∀ (s : State) (u lsub o : Nat), s.phase = .scanInner u lsub o → s.env.agenda = [] →
    (o + 97 * s.params.p ≤ lsub →
      ∃ c v t, exec (.corr (u + o)) { s with phase := .accum } = .next c ∧ exec .slice c = .next v ∧
        exec .pmatch v = .next t ∧
        (t.flags.matched = false →
          step s = .next { t with phase := .scanInner u lsub (o + s.params.jump) }) ∧
        (t.flags.matched = true → ∃ d, exec .decode t = .next d ∧ step s = .next { d with phase := .scanEmit u lsub o })) ∧
    (lsub < o + 97 * s.params.p → step s = .next { s with phase := .scanOuter (u + 96 * s.params.jump) })

/-- R155 to R157, R159, R190, R210: the outer loop runs while Ls − u ≥ SUBLEN − JUMP, drawing a sub-buffer of
min(SUBLEN, Ls − u) samples; when it ends, the buffer is cleared and MODE is ACCUM. After a match EMIT is done, holding while
the FIFO is full, and o moves on by 96·P in all. -/
def Obligations.OuterLoopAndEmitMoves : Prop :=
  (∀ (s : State) (u : Nat), s.phase = .scanOuter u → s.env.agenda = [] →
    ((s.params.blockSize : Int) - 1 - s.params.jump ≤ (s.ls : Int) - u →
      step s = .next { s with phase := .scanInner u (min (s.params.blockSize - 1) (s.ls - u)) 0 }) ∧
    ((s.ls : Int) - u < (s.params.blockSize : Int) - 1 - s.params.jump →
      step s = .next { s with phase := .accum, mem := [], accLen := 0 })) ∧
  ∀ (s : State) (u lsub o : Nat), s.phase = .scanEmit u lsub o → s.env.agenda = [] →
    (s.flags.decOk = false → step s = .next { s with phase := .scanInner u lsub (o + 96 * s.params.p) }) ∧
    (s.flags.decOk = true → s.fifo.length < s.params.recDepth →
      step s = .next { s with
        phase := .scanInner u lsub (o + 96 * s.params.p)
        fifo := s.fifo ++ [s.record]
        flags := { s.flags with decOk := false } }) ∧
    (s.flags.decOk = true → s.params.recDepth ≤ s.fifo.length → step s = .next s)

/-- R161, R246: no CORR of a scan is out of range, and no move of a scan changes an error flag. -/
def Obligations.ScanNeverOutOfRange : Prop :=
  ∀ s t : State, s.ScanInv → s.phase.scanning = true → s.engineMove = .next t →
    t.errors = s.errors ∧
    ∀ u lsub o, s.phase = .scanInner u lsub o → o + 97 * s.params.p ≤ lsub → (u + o) + 97 * s.params.p ≤ s.ls

/-- R162: in a sub-buffer where no window matches, the inner loop makes (Lsub − 97·P) div JUMP + 1 steps, none when Lsub < 97·P;
then the outer cursor moves on. -/
def Obligations.InnerStepCount : Prop :=
  ∀ (s : State) (u lsub : Nat), s.phase = .scanInner u lsub 0 → s.env.agenda = [] → s.ScanInv →
    let k := if lsub < 97 * s.params.p then 0 else (lsub - 97 * s.params.p) / s.params.jump + 1
    (∀ j < k, (s.evaluate (u + j * s.params.jump)).flags.matched = false) →
    ∃ t, runEngine k s = .next t ∧ t.phase = .scanInner u lsub (k * s.params.jump) ∧
      runEngine (k + 1) s = .next { t with phase := .scanOuter (u + 96 * s.params.jump) } ∧
      (0 < k → t.candOffset = BitVec.ofNat 28 (u + (k - 1) * s.params.jump))

/-- R162: a scan with nothing from the host ends in a bounded number of engine moves, with the buffer empty and MODE = ACCUM, or
holds in EMIT because the FIFO is full (R277). -/
def Obligations.ScanEndsOrHolds : Prop :=
  ∀ s : State, s.ScanInv → s.phase.scanning = true → s.env.agenda = [] →
    ∃ k t, k ≤ s.scanWork ∧ runEngine k s = .next t ∧
      ((t.phase = .accum ∧ t.mem = [] ∧ t.accLen = 0) ∨ t.scanHolds)

/-- R155, R210: a PROCESS whose records all find room runs SCAN() as R155 writes it, over the whole buffer, and then clears the
buffer and returns to ACCUM. -/
def Obligations.ProcessRunsTheScan : Prop :=
  ∀ s : State, s.mode = .accum → s.env.agenda = [] → s.scanAll.fifo.length ≤ s.params.recDepth →
    ∃ k, runEngine k { s with phase := .scanOuter 0 } =
      .next { s.scanAll with phase := .accum, mem := [], accLen := 0 }

/-- R87, R281: TRY's five commands at a window that fits do what one step of the scan does there, but for the cursor. -/
def Obligations.TryIsOneScanEvaluation : Prop :=
  ∀ (s : State) (a : Nat), s.mode = .accum → a + 97 * s.params.p ≤ s.ls → s.fifo.length < s.params.recDepth →
    ∃ s1 s2 s3 s4 s5, exec (.corr a) s = .next s1 ∧ exec .slice s1 = .next s2 ∧ exec .pmatch s2 = .next s3 ∧
      exec .decode s3 = .next s4 ∧ exec .emit s4 = .next s5 ∧
      s5 = if (s.evaluate a).flags.matched then (s.evaluate a).decodeFrame.emitFree else s.evaluate a

/-! ### CSRs -/

/-- R36: the bits of STATUS. -/
def Obligations.StatusBits : Prop :=
  ∀ s : State,
    (s.statusWord.getLsbD 0 = true ↔ s.mode = .proc) ∧ (s.statusWord.getLsbD 1 = true ↔ s.mode = .halted) ∧
    s.statusWord.getLsbD 2 = s.flags.matched ∧ s.statusWord.getLsbD 3 = s.flags.decOk ∧
    s.statusWord.getLsbD 4 = s.flags.lowConf ∧ s.statusWord.getLsbD 5 = s.flags.vRej ∧
    (s.statusWord.getLsbD 6 = true ↔ 0 < s.fifo.length) ∧
    (s.statusWord.getLsbD 7 = true ↔ s.fifo.length = s.params.recDepth) ∧
    s.statusWord.getLsbD 8 = s.errors.illegalCmd ∧ s.statusWord.getLsbD 9 = s.errors.rangeErr ∧
    s.statusWord.getLsbD 10 = s.errors.stateErr ∧ s.statusWord.getLsbD 11 = s.errors.blockErr ∧
    (∀ i, 12 ≤ i → s.statusWord.getLsbD i = false)

/-- R41: BVi[31 − b] = BV[32·i + b], so BVi = val(BV[32i : 32i+32)). -/
def Obligations.BitVectorPacking : Prop :=
  ∀ (s : State) (i b : Nat), i < 3 → b < 32 →
    (s.bvWord i).getLsbD (31 - b) = s.BV (32 * i + b) ∧ (s.bvWord i).toNat = val (span s.bits (32 * i) (32 * i + 32)) ∧
    s.wordAt 0x14 = s.bvWord 0 ∧ s.wordAt 0x18 = s.bvWord 1 ∧ s.wordAt 0x1C = s.bvWord 2

/-- R44: SB_DATA reads the soft bit SB_SEL selects, sign-extended, and 0 when SB_SEL ≥ 96. -/
def Obligations.SbDataShowsSelectedSoftBit : Prop :=
  ∀ s : State, s.SoftBitInv →
    (s.sbSel.toNat < 96 → (s.wordAt 0x24).toInt = s.SB s.sbSel.toNat) ∧ (96 ≤ s.sbSel.toNat → s.wordAt 0x24 = 0)

/-- R35 to R49, R68, R233: what an aligned 32-bit read, by window offset or platform address, answers outside MODE = PROC. -/
def Obligations.CsrReadValues : Prop :=
  ∀ (s : State) (x : Nat) (rest : List Event), s.mode ≠ .proc → x < 256 → x % 4 = 0 →
    s.accesses x (.read 4) rest →
    ∃ v : Word, step s = .next { s with env := { s.env with agenda := rest, answers := s.env.answers ++ [.value v] } } ∧
      (x = 0x00 → v = 0x45525443) ∧ (x = 0x04 → v = s.statusWord) ∧ (x = 0x08 → v = 0) ∧
      (x = 0x0C → v = BitVec.ofNat 32 s.accLen) ∧ (x = 0x10 → v = s.userParam) ∧ (x = 0x14 → v = s.bvWord 0) ∧
      (x = 0x18 → v = s.bvWord 1) ∧ (x = 0x1C → v = s.bvWord 2) ∧ (x = 0x20 → v.toNat = s.sbSel.toNat) ∧
      (x = 0x24 → v = BitVec.ofInt 32 (s.SB s.sbSel.toNat)) ∧ (x = 0x28 → v.toNat = s.fields.meterId.toNat) ∧
      (x = 0x2C → v.toNat = s.fields.meterType.toNat) ∧ (x = 0x30 → v.toNat = s.fields.physTamper.toNat) ∧
      (x = 0x34 → v.toNat = s.fields.encTamper.toNat) ∧ (x = 0x38 → v.toNat = s.fields.consumption.toNat) ∧
      (x = 0x3C → v.toNat = s.fields.altId.toNat) ∧ (x = 0x40 → v.toNat = s.candOffset.toNat) ∧
      (x = 0x44 → v = BitVec.ofNat 32 s.fifo.length) ∧ (0x48 ≤ x → v = 0)

/-- R72: a read while MODE = PROC, by window offset or platform address, still changes no register, and the bits R72 does not
leave open read as they are: the reserved bits, the other registers, and of STATUS all but MATCH, DEC_OK, LOWCONF and VREJ. The
open bits are a free value (log entry 6). -/
def Obligations.BusyReadKeepsSettledBits : Prop :=
  ∀ (s : State) (x : Nat) (rest : List Event), s.mode = .proc → x < 256 → x % 4 = 0 →
    s.accesses x (.read 4) rest →
    ∃ (t : State) (v : Word), step s = .next t ∧ t = { s with env := t.env } ∧
      t.env = { s.env with
        agenda := rest
        answers := s.env.answers ++ [.value v]
        freeReads := s.env.freeReads + 1 } ∧
      (x ∈ [0x00, 0x08, 0x0C, 0x10, 0x20, 0x44] ∨ 0x48 ≤ x → v = s.wordAt x) ∧
      (x = 0x04 → ∀ i, i < 2 ∨ 6 ≤ i → v.getLsbD i = s.statusWord.getLsbD i) ∧
      (x = 0x28 ∨ x = 0x3C → v.toNat < 2 ^ 26) ∧ (x = 0x2C → v.toNat < 2 ^ 4) ∧
      (x = 0x30 ∨ x = 0x34 → v.toNat < 2 ^ 2) ∧ (x = 0x38 → v.toNat < 2 ^ 24) ∧ (x = 0x40 → v.toNat < 2 ^ 28)

/-- R67: a narrower, wider or misaligned access, by window offset or platform address, is answered with a bus error and changes
no state. Two choices of the model stand in this statement: that the host goes on after the bus error, a next state and not a
fault (log entry 7), and that an access outside the window stops the run (log entry 8). -/
def Obligations.BusErrorChangesNothing : Prop :=
  (∀ (s : State) (x n : Nat) (v : Word) (acc : Access) (rest : List Event), x < 256 → (n ≠ 4 ∨ x % 4 ≠ 0) →
    (acc = .read n ∨ acc = .write n v) → s.accesses x acc rest →
    step s = .next { s with env := { s.env with agenda := rest, answers := s.env.answers ++ [.busError] } }) ∧
  (∀ (s : State) (x : Nat) (acc : Access) (rest : List Event), 256 ≤ x → s.accesses x acc rest →
    step s = .fault .outsideWindow) ∧
  (∀ (s : State) (addr : Nat) (acc : Access) (rest : List Event), addr < s.params.csrBase →
    s.env.agenda = .platform addr acc :: rest → step s = .fault .outsideWindow)

/-- R36, R68, R234, R245: a STATUS write clears each of ILLEGAL_CMD, RANGE_ERR and STATE_ERR whose bit is 1 and nothing else;
BLOCK_ERR stays. USER_PARAM and SB_SEL take the value written; a write to an offset that is neither these nor CMD has no
effect. All in every MODE, by window offset or platform address. -/
def Obligations.CsrWriteEffects : Prop :=
  ∀ (s : State) (x : Nat) (v : Word) (rest : List Event), x < 256 → x % 4 = 0 →
    s.accesses x (.write 4 v) rest →
    let p := { s with env := { s.env with agenda := rest, answers := s.env.answers ++ [.written] } }
    (x = 0x04 → ∃ t, step s = .next t ∧
      t.errors.illegalCmd = (s.errors.illegalCmd && !v.getLsbD 8) ∧
      t.errors.rangeErr = (s.errors.rangeErr && !v.getLsbD 9) ∧
      t.errors.stateErr = (s.errors.stateErr && !v.getLsbD 10) ∧ t.errors.blockErr = s.errors.blockErr ∧
      t = { p with errors := t.errors }) ∧
    (x = 0x10 → step s = .next { p with userParam := v }) ∧
    (x = 0x20 → ∃ t, step s = .next t ∧ t.sbSel.toNat = v.toNat % 128 ∧ t = { p with sbSel := t.sbSel }) ∧
    (x ∉ [0x04, 0x08, 0x10, 0x20] → step s = .next p)

/-- R30, R43: no command but SRESET reads USER_PARAM: it only carries it along. -/
def Obligations.UserParamHasNoEffect : Prop :=
  ∀ (i : Instr) (s t : State) (v : Word), i ≠ .sreset → exec i s = .next t →
    exec i { s with userParam := v } = .next { t with userParam := v }

/-! ### Rules over all steps -/

/-- R21, R23 to R27, R30, R31, R64, R66: the buffer and each register are written only by the operation their rule names. In a
step the parameters stay, and when it is no reset: SB and CAND_OFFSET change together, by a CORR of a window that fits; BV by
SLICE; MATCH by CORR, SLICE or PMATCH; VREJ by these or DECODE; DEC_OK by these or EMIT; the field registers and LOWCONF by a
DECODE that accepts; each host-issued or in SCAN. The buffer grows by the append of a PUSH and is emptied by CLEAR or at the end
of a scan; USER_PARAM and SB_SEL change by the host's write. -/
def Obligations.RegistersHaveTheirWriters : Prop :=
  ∀ s t : State, step s = .next t →
    let scans : Prop := ∃ a, s.scansWindow a
    let compares : Prop := (∃ a, s.performs (.corr a)) ∨ s.performs .slice ∨ s.performs .pmatch ∨ scans
    t.build = s.build ∧
    ((s.resets ∧ t = { State.resetWith s.build with env := t.env }) ∨
      (((t.sb = s.sb ∧ t.candOffset = s.candOffset) ∨
          ∃ a, (s.performs (.corr a) ∨ s.scansWindow a) ∧ a + 97 * s.params.p ≤ s.ls ∧ t.sb = s.softBits a ∧
            t.candOffset = BitVec.ofNat 28 a) ∧
        (t.bv = s.bv ∨ ((s.performs .slice ∨ scans) ∧ ∀ n < 96, t.BV n = decide (0 < t.SB n))) ∧
        (t.flags.matched = s.flags.matched ∨ compares) ∧
        (t.flags.vRej = s.flags.vRej ∨ compares ∨ s.performs .decode) ∧
        (t.flags.decOk = s.flags.decOk ∨ compares ∨ s.performs .decode ∨ s.performs .emit ∨
          (s.engineTurn ∧ (s.phase = .emitHold ∨ ∃ u lsub o, s.phase = .scanEmit u lsub o))) ∧
        ((t.fields = s.fields ∧ t.flags.lowConf = s.flags.lowConf) ∨
          ((s.performs .decode ∨ scans) ∧ t.flags.decOk = true ∧ t.flags.matched = true ∧ t.fields = t.extracted ∧
            t.flags.lowConf = decide (s.params.verifyMode = .disabled))) ∧
        ((t.mem = s.mem ∧ t.accLen = s.accLen) ∨
          ((s.performs .clear ∨ (s.engineTurn ∧ ∃ u, s.phase = .scanOuter u)) ∧ t.mem = [] ∧ t.accLen = 0) ∨
          (s.engineTurn ∧ (∃ b, s.phase = .passTaken b) ∧ t.accLen = s.accLen + s.params.blockSize)) ∧
        (t.userParam = s.userParam ∨ ∃ v rest, s.accesses 0x10 (.write 4 v) rest ∧ t.userParam = v) ∧
        (t.sbSel = s.sbSel ∨ ∃ v rest, s.accesses 0x20 (.write 4 v) rest ∧ t.sbSel.toNat = v.toNat % 128)))

/-- R213: every change of MODE is one of the table's, at its event: RST or SRESET; a malformed block halts the engine; a
well-formed block, the PROC command, a command accepted to be executed later or an EMIT that finds the FIFO full makes it PROC;
and from PROC the engine goes back to ACCUM when a command or an EMIT is over, when a block is appended that leaves the buffer
not READY, or when the scan ends with the buffer cleared. An engine in ACCUM with nothing offered and nothing planned does
nothing at all. -/
def Obligations.ModeChangesOnlyAsListed : Prop :=
  (∀ s : State, s.mode = .accum → s.env.agenda = [] → s.env.offers = [] → step s = .next s) ∧
  ∀ s t : State, step s = .next t → s.mode ≠ t.mode →
    (s.resets ∧ t = { State.resetWith s.build with env := t.env }) ∨
    (s.mode = .accum ∧ t.mode = .halted ∧ s.engineTurn ∧
      ∃ b, s.env.offers = b :: t.env.offers ∧ b.length ≠ s.params.blockSize) ∨
    (s.mode = .accum ∧ t.mode = .proc ∧
      ((s.engineTurn ∧ ∃ b, t.phase = .passHold b ∧ s.env.offers = b :: t.env.offers ∧ b.length = s.params.blockSize) ∨
        (s.performs .proc ∧ t.phase = .scanOuter 0) ∨
        (s.performs .emit ∧ s.flags.decOk = true ∧ s.params.recDepth ≤ s.fifo.length ∧ t.phase = .emitHold) ∨
        ∃ w i rest, s.env.agenda = .slowCmd w :: rest ∧ decodeWord w = .command i ∧ i ≠ .sreset ∧ t.phase = .busy i)) ∨
    (s.mode = .proc ∧ t.mode = .accum ∧ s.engineTurn ∧
      ((∃ i, s.phase = .busy i) ∨
        (s.phase = .emitHold ∧ (s.flags.decOk = false ∨ s.fifo.length < s.params.recDepth)) ∨
        (∃ b, s.phase = .passTaken b ∧ t.accLen = s.accLen + s.params.blockSize ∧
          t.accLen ≤ s.params.blockSize * s.params.nacc) ∨
        ∃ u, s.phase = .scanOuter u ∧ t.mem = [] ∧ t.accLen = 0))

/-- R245: an error flag, once set, stays set but for a STATUS write of 1 to its bit, by window offset or platform address, and
for a reset; BLOCK_ERR stays until a reset. -/
def Obligations.ErrorsStayUntilCleared : Prop :=
  ∀ s t : State, step s = .next t →
    let wroteOne (i : Nat) : Prop := ∃ (v : Word) (rest : List Event), v.getLsbD i = true ∧ s.accesses 0x04 (.write 4 v) rest
    (s.resets ∧ t = { State.resetWith s.build with env := t.env }) ∨
      ((s.errors.illegalCmd = true → t.errors.illegalCmd = true ∨ wroteOne 8) ∧
        (s.errors.rangeErr = true → t.errors.rangeErr = true ∨ wroteOne 9) ∧
        (s.errors.stateErr = true → t.errors.stateErr = true ∨ wroteOne 10) ∧
        (s.errors.blockErr = true → t.errors.blockErr = true))

/-- The model's choices of log entries 7 and 8 on R67: a step can stop only for a bus access outside the window (entry
8); every other step, one with a narrow, wide or misaligned access inside it included (entry 7), answers a next state. -/
def Obligations.StepStopsOnlyOutsideWindow : Prop :=
  ∀ s : State, s.staysInWindow → ∃ t, step s = .next t

/-! ### Invariants -/

/-- R60, R62, R64, R65, R101: every step keeps the buffer's invariant. -/
def Obligations.StepKeepsBufferInvariant : Prop :=
  ∀ s t : State, s.BufferInv → step s = .next t → t.BufferInv

/-- R23, R126: every step keeps the soft bits in their range. -/
def Obligations.StepKeepsSoftBitRange : Prop :=
  ∀ s t : State, s.SoftBitInv → step s = .next t → t.SoftBitInv

/-- R150, R184, R187, R188, R196, R29: every step keeps what the flags say of BV, the field registers and the records. -/
def Obligations.StepKeepsResultInvariant : Prop :=
  ∀ s t : State, s.ResultInv → step s = .next t → t.ResultInv

/-- R22, R28, R157, R158, R160, R188: every step keeps BLOCK_ERR and HALTED together and the scan's cursors inside the
buffer. -/
def Obligations.StepKeepsHaltAndScanInvariants : Prop :=
  ∀ s t : State, step s = .next t → (s.HaltInv → t.HaltInv) ∧ (s.ScanInv → t.ScanInv)

/-- R51: the invariants hold after reset, for every build. -/
def Obligations.ResetHasInvariants : Prop :=
  ∀ b : Build, (State.resetWith b).Inv ∧ (State.resetWith b).mem.wf
end

