-- ==== Sys2Proof/Laws/Config.lean ====
section
/-! SUPPORT. What R6 says of every build, one lemma per constraint, and the derived constants of R7. -/

namespace Sys2Proof

variable (b : Build)

theorem Build.blockSize_even : b.params.blockSize % 2 = 0 := b.legal.1
theorem Build.four_le_blockSize : 4 ≤ b.params.blockSize := b.legal.2.1
theorem Build.nacc_pos : 1 ≤ b.params.nacc := b.legal.2.2.1
theorem Build.bias_le : b.params.bias ≤ 255 := b.legal.2.2.2.1
theorem Build.two_le_p : 2 ≤ b.params.p := b.legal.2.2.2.2.1
theorem Build.p_le : b.params.p ≤ 32768 := b.legal.2.2.2.2.2.1
theorem Build.jump_pos : 1 ≤ b.params.jump := b.legal.2.2.2.2.2.2.1
theorem Build.jump_le : b.params.jump ≤ b.params.blockSize - 2 := b.legal.2.2.2.2.2.2.2.1
theorem Build.cap_le : (b.params.nacc + 1) * b.params.blockSize ≤ 2 ^ 29 := b.legal.2.2.2.2.2.2.2.2.1
theorem Build.recDepth_pos : 1 ≤ b.params.recDepth := b.legal.2.2.2.2.2.2.2.2.2

/-- A parameter set has a build exactly when it is legal (R6). -/
theorem Build.ofParams?_isSome (c : Params) : (Build.ofParams? c).isSome = true ↔ c.Legal := by
  unfold Build.ofParams?
  split
  · exact ⟨fun _ => ‹_›, fun _ => rfl⟩
  · exact ⟨fun h => by simp at h, fun h => absurd h ‹_›⟩

/-- The jump's margin leaves a sample (R156). -/
theorem Build.jump_lt_subLen : b.params.jump < b.params.subLen := by
  have := b.jump_le
  have := b.four_le_blockSize
  unfold Params.subLen
  omega

/-- The open P of the reset build may be any legal one. -/
theorem Config.p_surjective (p : Nat) (h : 2 ≤ p ∧ p ≤ 32768) : ∃ x, 2 + x % 32767 = p := ⟨p - 2, by omega⟩

/-- The open JUMP of the reset build may be any legal one. -/
theorem Config.jump_surjective (j : Nat) (h : 1 ≤ j ∧ j ≤ 18686) : ∃ x, 1 + x % 18686 = j := ⟨j - 1, by omega⟩

end Sys2Proof
end

