-- ==== Sys2Proof/Laws/State.lean ====
section
/-! SUPPORT. What each update of the state does to each field: one lemma per field per update. -/

namespace Sys2Proof.Machine

variable (s : State)

/-! ### setPhase -/

@[simp] theorem State.setPhase_build (x : Phase) : (s.setPhase x).build = s.build := rfl
@[simp] theorem State.setPhase_phase (x : Phase) : (s.setPhase x).phase = x := rfl
@[simp] theorem State.setPhase_mem (x : Phase) : (s.setPhase x).mem = s.mem := rfl
@[simp] theorem State.setPhase_accLen (x : Phase) : (s.setPhase x).accLen = s.accLen := rfl
@[simp] theorem State.setPhase_sb (x : Phase) : (s.setPhase x).sb = s.sb := rfl
@[simp] theorem State.setPhase_bv (x : Phase) : (s.setPhase x).bv = s.bv := rfl
@[simp] theorem State.setPhase_fields (x : Phase) : (s.setPhase x).fields = s.fields := rfl
@[simp] theorem State.setPhase_candOffset (x : Phase) : (s.setPhase x).candOffset = s.candOffset := rfl
@[simp] theorem State.setPhase_flags (x : Phase) : (s.setPhase x).flags = s.flags := rfl
@[simp] theorem State.setPhase_errors (x : Phase) : (s.setPhase x).errors = s.errors := rfl
@[simp] theorem State.setPhase_fifo (x : Phase) : (s.setPhase x).fifo = s.fifo := rfl
@[simp] theorem State.setPhase_userParam (x : Phase) : (s.setPhase x).userParam = s.userParam := rfl
@[simp] theorem State.setPhase_sbSel (x : Phase) : (s.setPhase x).sbSel = s.sbSel := rfl
@[simp] theorem State.setPhase_env (x : Phase) : (s.setPhase x).env = s.env := rfl
@[simp] theorem State.setPhase_setPhase (x y : Phase) : (s.setPhase x).setPhase y = s.setPhase y := rfl
@[simp] theorem State.setPhase_same : s.setPhase s.phase = s := rfl

/-! ### setSb -/

@[simp] theorem State.setSb_build (x : Vector Int 96) : (s.setSb x).build = s.build := rfl
@[simp] theorem State.setSb_phase (x : Vector Int 96) : (s.setSb x).phase = s.phase := rfl
@[simp] theorem State.setSb_mem (x : Vector Int 96) : (s.setSb x).mem = s.mem := rfl
@[simp] theorem State.setSb_accLen (x : Vector Int 96) : (s.setSb x).accLen = s.accLen := rfl
@[simp] theorem State.setSb_sb (x : Vector Int 96) : (s.setSb x).sb = x := rfl
@[simp] theorem State.setSb_bv (x : Vector Int 96) : (s.setSb x).bv = s.bv := rfl
@[simp] theorem State.setSb_fields (x : Vector Int 96) : (s.setSb x).fields = s.fields := rfl
@[simp] theorem State.setSb_candOffset (x : Vector Int 96) : (s.setSb x).candOffset = s.candOffset := rfl
@[simp] theorem State.setSb_flags (x : Vector Int 96) : (s.setSb x).flags = s.flags := rfl
@[simp] theorem State.setSb_errors (x : Vector Int 96) : (s.setSb x).errors = s.errors := rfl
@[simp] theorem State.setSb_fifo (x : Vector Int 96) : (s.setSb x).fifo = s.fifo := rfl
@[simp] theorem State.setSb_userParam (x : Vector Int 96) : (s.setSb x).userParam = s.userParam := rfl
@[simp] theorem State.setSb_sbSel (x : Vector Int 96) : (s.setSb x).sbSel = s.sbSel := rfl
@[simp] theorem State.setSb_env (x : Vector Int 96) : (s.setSb x).env = s.env := rfl
@[simp] theorem State.setSb_setSb (x y : Vector Int 96) : (s.setSb x).setSb y = s.setSb y := rfl
@[simp] theorem State.setSb_same : s.setSb s.sb = s := rfl

/-! ### setBv -/

@[simp] theorem State.setBv_build (x : Vector Bool 96) : (s.setBv x).build = s.build := rfl
@[simp] theorem State.setBv_phase (x : Vector Bool 96) : (s.setBv x).phase = s.phase := rfl
@[simp] theorem State.setBv_mem (x : Vector Bool 96) : (s.setBv x).mem = s.mem := rfl
@[simp] theorem State.setBv_accLen (x : Vector Bool 96) : (s.setBv x).accLen = s.accLen := rfl
@[simp] theorem State.setBv_sb (x : Vector Bool 96) : (s.setBv x).sb = s.sb := rfl
@[simp] theorem State.setBv_bv (x : Vector Bool 96) : (s.setBv x).bv = x := rfl
@[simp] theorem State.setBv_fields (x : Vector Bool 96) : (s.setBv x).fields = s.fields := rfl
@[simp] theorem State.setBv_candOffset (x : Vector Bool 96) : (s.setBv x).candOffset = s.candOffset := rfl
@[simp] theorem State.setBv_flags (x : Vector Bool 96) : (s.setBv x).flags = s.flags := rfl
@[simp] theorem State.setBv_errors (x : Vector Bool 96) : (s.setBv x).errors = s.errors := rfl
@[simp] theorem State.setBv_fifo (x : Vector Bool 96) : (s.setBv x).fifo = s.fifo := rfl
@[simp] theorem State.setBv_userParam (x : Vector Bool 96) : (s.setBv x).userParam = s.userParam := rfl
@[simp] theorem State.setBv_sbSel (x : Vector Bool 96) : (s.setBv x).sbSel = s.sbSel := rfl
@[simp] theorem State.setBv_env (x : Vector Bool 96) : (s.setBv x).env = s.env := rfl
@[simp] theorem State.setBv_setBv (x y : Vector Bool 96) : (s.setBv x).setBv y = s.setBv y := rfl
@[simp] theorem State.setBv_same : s.setBv s.bv = s := rfl

/-! ### setFields -/

@[simp] theorem State.setFields_build (x : FieldRegs) : (s.setFields x).build = s.build := rfl
@[simp] theorem State.setFields_phase (x : FieldRegs) : (s.setFields x).phase = s.phase := rfl
@[simp] theorem State.setFields_mem (x : FieldRegs) : (s.setFields x).mem = s.mem := rfl
@[simp] theorem State.setFields_accLen (x : FieldRegs) : (s.setFields x).accLen = s.accLen := rfl
@[simp] theorem State.setFields_sb (x : FieldRegs) : (s.setFields x).sb = s.sb := rfl
@[simp] theorem State.setFields_bv (x : FieldRegs) : (s.setFields x).bv = s.bv := rfl
@[simp] theorem State.setFields_fields (x : FieldRegs) : (s.setFields x).fields = x := rfl
@[simp] theorem State.setFields_candOffset (x : FieldRegs) : (s.setFields x).candOffset = s.candOffset := rfl
@[simp] theorem State.setFields_flags (x : FieldRegs) : (s.setFields x).flags = s.flags := rfl
@[simp] theorem State.setFields_errors (x : FieldRegs) : (s.setFields x).errors = s.errors := rfl
@[simp] theorem State.setFields_fifo (x : FieldRegs) : (s.setFields x).fifo = s.fifo := rfl
@[simp] theorem State.setFields_userParam (x : FieldRegs) : (s.setFields x).userParam = s.userParam := rfl
@[simp] theorem State.setFields_sbSel (x : FieldRegs) : (s.setFields x).sbSel = s.sbSel := rfl
@[simp] theorem State.setFields_env (x : FieldRegs) : (s.setFields x).env = s.env := rfl
@[simp] theorem State.setFields_setFields (x y : FieldRegs) : (s.setFields x).setFields y = s.setFields y := rfl
@[simp] theorem State.setFields_same : s.setFields s.fields = s := rfl

/-! ### setCandOffset -/

@[simp] theorem State.setCandOffset_build (x : BitVec 28) : (s.setCandOffset x).build = s.build := rfl
@[simp] theorem State.setCandOffset_phase (x : BitVec 28) : (s.setCandOffset x).phase = s.phase := rfl
@[simp] theorem State.setCandOffset_mem (x : BitVec 28) : (s.setCandOffset x).mem = s.mem := rfl
@[simp] theorem State.setCandOffset_accLen (x : BitVec 28) : (s.setCandOffset x).accLen = s.accLen := rfl
@[simp] theorem State.setCandOffset_sb (x : BitVec 28) : (s.setCandOffset x).sb = s.sb := rfl
@[simp] theorem State.setCandOffset_bv (x : BitVec 28) : (s.setCandOffset x).bv = s.bv := rfl
@[simp] theorem State.setCandOffset_fields (x : BitVec 28) : (s.setCandOffset x).fields = s.fields := rfl
@[simp] theorem State.setCandOffset_candOffset (x : BitVec 28) : (s.setCandOffset x).candOffset = x := rfl
@[simp] theorem State.setCandOffset_flags (x : BitVec 28) : (s.setCandOffset x).flags = s.flags := rfl
@[simp] theorem State.setCandOffset_errors (x : BitVec 28) : (s.setCandOffset x).errors = s.errors := rfl
@[simp] theorem State.setCandOffset_fifo (x : BitVec 28) : (s.setCandOffset x).fifo = s.fifo := rfl
@[simp] theorem State.setCandOffset_userParam (x : BitVec 28) : (s.setCandOffset x).userParam = s.userParam := rfl
@[simp] theorem State.setCandOffset_sbSel (x : BitVec 28) : (s.setCandOffset x).sbSel = s.sbSel := rfl
@[simp] theorem State.setCandOffset_env (x : BitVec 28) : (s.setCandOffset x).env = s.env := rfl
@[simp] theorem State.setCandOffset_setCandOffset (x y : BitVec 28) : (s.setCandOffset x).setCandOffset y = s.setCandOffset y := rfl
@[simp] theorem State.setCandOffset_same : s.setCandOffset s.candOffset = s := rfl

/-! ### setFlags -/

@[simp] theorem State.setFlags_build (x : StatusFlags) : (s.setFlags x).build = s.build := rfl
@[simp] theorem State.setFlags_phase (x : StatusFlags) : (s.setFlags x).phase = s.phase := rfl
@[simp] theorem State.setFlags_mem (x : StatusFlags) : (s.setFlags x).mem = s.mem := rfl
@[simp] theorem State.setFlags_accLen (x : StatusFlags) : (s.setFlags x).accLen = s.accLen := rfl
@[simp] theorem State.setFlags_sb (x : StatusFlags) : (s.setFlags x).sb = s.sb := rfl
@[simp] theorem State.setFlags_bv (x : StatusFlags) : (s.setFlags x).bv = s.bv := rfl
@[simp] theorem State.setFlags_fields (x : StatusFlags) : (s.setFlags x).fields = s.fields := rfl
@[simp] theorem State.setFlags_candOffset (x : StatusFlags) : (s.setFlags x).candOffset = s.candOffset := rfl
@[simp] theorem State.setFlags_flags (x : StatusFlags) : (s.setFlags x).flags = x := rfl
@[simp] theorem State.setFlags_errors (x : StatusFlags) : (s.setFlags x).errors = s.errors := rfl
@[simp] theorem State.setFlags_fifo (x : StatusFlags) : (s.setFlags x).fifo = s.fifo := rfl
@[simp] theorem State.setFlags_userParam (x : StatusFlags) : (s.setFlags x).userParam = s.userParam := rfl
@[simp] theorem State.setFlags_sbSel (x : StatusFlags) : (s.setFlags x).sbSel = s.sbSel := rfl
@[simp] theorem State.setFlags_env (x : StatusFlags) : (s.setFlags x).env = s.env := rfl
@[simp] theorem State.setFlags_setFlags (x y : StatusFlags) : (s.setFlags x).setFlags y = s.setFlags y := rfl
@[simp] theorem State.setFlags_same : s.setFlags s.flags = s := rfl

/-! ### setErrors -/

@[simp] theorem State.setErrors_build (x : ErrorFlags) : (s.setErrors x).build = s.build := rfl
@[simp] theorem State.setErrors_phase (x : ErrorFlags) : (s.setErrors x).phase = s.phase := rfl
@[simp] theorem State.setErrors_mem (x : ErrorFlags) : (s.setErrors x).mem = s.mem := rfl
@[simp] theorem State.setErrors_accLen (x : ErrorFlags) : (s.setErrors x).accLen = s.accLen := rfl
@[simp] theorem State.setErrors_sb (x : ErrorFlags) : (s.setErrors x).sb = s.sb := rfl
@[simp] theorem State.setErrors_bv (x : ErrorFlags) : (s.setErrors x).bv = s.bv := rfl
@[simp] theorem State.setErrors_fields (x : ErrorFlags) : (s.setErrors x).fields = s.fields := rfl
@[simp] theorem State.setErrors_candOffset (x : ErrorFlags) : (s.setErrors x).candOffset = s.candOffset := rfl
@[simp] theorem State.setErrors_flags (x : ErrorFlags) : (s.setErrors x).flags = s.flags := rfl
@[simp] theorem State.setErrors_errors (x : ErrorFlags) : (s.setErrors x).errors = x := rfl
@[simp] theorem State.setErrors_fifo (x : ErrorFlags) : (s.setErrors x).fifo = s.fifo := rfl
@[simp] theorem State.setErrors_userParam (x : ErrorFlags) : (s.setErrors x).userParam = s.userParam := rfl
@[simp] theorem State.setErrors_sbSel (x : ErrorFlags) : (s.setErrors x).sbSel = s.sbSel := rfl
@[simp] theorem State.setErrors_env (x : ErrorFlags) : (s.setErrors x).env = s.env := rfl
@[simp] theorem State.setErrors_setErrors (x y : ErrorFlags) : (s.setErrors x).setErrors y = s.setErrors y := rfl
@[simp] theorem State.setErrors_same : s.setErrors s.errors = s := rfl

/-! ### setFifo -/

@[simp] theorem State.setFifo_build (x : List Record) : (s.setFifo x).build = s.build := rfl
@[simp] theorem State.setFifo_phase (x : List Record) : (s.setFifo x).phase = s.phase := rfl
@[simp] theorem State.setFifo_mem (x : List Record) : (s.setFifo x).mem = s.mem := rfl
@[simp] theorem State.setFifo_accLen (x : List Record) : (s.setFifo x).accLen = s.accLen := rfl
@[simp] theorem State.setFifo_sb (x : List Record) : (s.setFifo x).sb = s.sb := rfl
@[simp] theorem State.setFifo_bv (x : List Record) : (s.setFifo x).bv = s.bv := rfl
@[simp] theorem State.setFifo_fields (x : List Record) : (s.setFifo x).fields = s.fields := rfl
@[simp] theorem State.setFifo_candOffset (x : List Record) : (s.setFifo x).candOffset = s.candOffset := rfl
@[simp] theorem State.setFifo_flags (x : List Record) : (s.setFifo x).flags = s.flags := rfl
@[simp] theorem State.setFifo_errors (x : List Record) : (s.setFifo x).errors = s.errors := rfl
@[simp] theorem State.setFifo_fifo (x : List Record) : (s.setFifo x).fifo = x := rfl
@[simp] theorem State.setFifo_userParam (x : List Record) : (s.setFifo x).userParam = s.userParam := rfl
@[simp] theorem State.setFifo_sbSel (x : List Record) : (s.setFifo x).sbSel = s.sbSel := rfl
@[simp] theorem State.setFifo_env (x : List Record) : (s.setFifo x).env = s.env := rfl
@[simp] theorem State.setFifo_setFifo (x y : List Record) : (s.setFifo x).setFifo y = s.setFifo y := rfl
@[simp] theorem State.setFifo_same : s.setFifo s.fifo = s := rfl

/-! ### setUserParam -/

@[simp] theorem State.setUserParam_build (x : Word) : (s.setUserParam x).build = s.build := rfl
@[simp] theorem State.setUserParam_phase (x : Word) : (s.setUserParam x).phase = s.phase := rfl
@[simp] theorem State.setUserParam_mem (x : Word) : (s.setUserParam x).mem = s.mem := rfl
@[simp] theorem State.setUserParam_accLen (x : Word) : (s.setUserParam x).accLen = s.accLen := rfl
@[simp] theorem State.setUserParam_sb (x : Word) : (s.setUserParam x).sb = s.sb := rfl
@[simp] theorem State.setUserParam_bv (x : Word) : (s.setUserParam x).bv = s.bv := rfl
@[simp] theorem State.setUserParam_fields (x : Word) : (s.setUserParam x).fields = s.fields := rfl
@[simp] theorem State.setUserParam_candOffset (x : Word) : (s.setUserParam x).candOffset = s.candOffset := rfl
@[simp] theorem State.setUserParam_flags (x : Word) : (s.setUserParam x).flags = s.flags := rfl
@[simp] theorem State.setUserParam_errors (x : Word) : (s.setUserParam x).errors = s.errors := rfl
@[simp] theorem State.setUserParam_fifo (x : Word) : (s.setUserParam x).fifo = s.fifo := rfl
@[simp] theorem State.setUserParam_userParam (x : Word) : (s.setUserParam x).userParam = x := rfl
@[simp] theorem State.setUserParam_sbSel (x : Word) : (s.setUserParam x).sbSel = s.sbSel := rfl
@[simp] theorem State.setUserParam_env (x : Word) : (s.setUserParam x).env = s.env := rfl
@[simp] theorem State.setUserParam_setUserParam (x y : Word) : (s.setUserParam x).setUserParam y = s.setUserParam y := rfl
@[simp] theorem State.setUserParam_same : s.setUserParam s.userParam = s := rfl

/-! ### setSbSel -/

@[simp] theorem State.setSbSel_build (x : BitVec 7) : (s.setSbSel x).build = s.build := rfl
@[simp] theorem State.setSbSel_phase (x : BitVec 7) : (s.setSbSel x).phase = s.phase := rfl
@[simp] theorem State.setSbSel_mem (x : BitVec 7) : (s.setSbSel x).mem = s.mem := rfl
@[simp] theorem State.setSbSel_accLen (x : BitVec 7) : (s.setSbSel x).accLen = s.accLen := rfl
@[simp] theorem State.setSbSel_sb (x : BitVec 7) : (s.setSbSel x).sb = s.sb := rfl
@[simp] theorem State.setSbSel_bv (x : BitVec 7) : (s.setSbSel x).bv = s.bv := rfl
@[simp] theorem State.setSbSel_fields (x : BitVec 7) : (s.setSbSel x).fields = s.fields := rfl
@[simp] theorem State.setSbSel_candOffset (x : BitVec 7) : (s.setSbSel x).candOffset = s.candOffset := rfl
@[simp] theorem State.setSbSel_flags (x : BitVec 7) : (s.setSbSel x).flags = s.flags := rfl
@[simp] theorem State.setSbSel_errors (x : BitVec 7) : (s.setSbSel x).errors = s.errors := rfl
@[simp] theorem State.setSbSel_fifo (x : BitVec 7) : (s.setSbSel x).fifo = s.fifo := rfl
@[simp] theorem State.setSbSel_userParam (x : BitVec 7) : (s.setSbSel x).userParam = s.userParam := rfl
@[simp] theorem State.setSbSel_sbSel (x : BitVec 7) : (s.setSbSel x).sbSel = x := rfl
@[simp] theorem State.setSbSel_env (x : BitVec 7) : (s.setSbSel x).env = s.env := rfl
@[simp] theorem State.setSbSel_setSbSel (x y : BitVec 7) : (s.setSbSel x).setSbSel y = s.setSbSel y := rfl
@[simp] theorem State.setSbSel_same : s.setSbSel s.sbSel = s := rfl

/-! ### setEnv -/

@[simp] theorem State.setEnv_build (x : Env) : (s.setEnv x).build = s.build := rfl
@[simp] theorem State.setEnv_phase (x : Env) : (s.setEnv x).phase = s.phase := rfl
@[simp] theorem State.setEnv_mem (x : Env) : (s.setEnv x).mem = s.mem := rfl
@[simp] theorem State.setEnv_accLen (x : Env) : (s.setEnv x).accLen = s.accLen := rfl
@[simp] theorem State.setEnv_sb (x : Env) : (s.setEnv x).sb = s.sb := rfl
@[simp] theorem State.setEnv_bv (x : Env) : (s.setEnv x).bv = s.bv := rfl
@[simp] theorem State.setEnv_fields (x : Env) : (s.setEnv x).fields = s.fields := rfl
@[simp] theorem State.setEnv_candOffset (x : Env) : (s.setEnv x).candOffset = s.candOffset := rfl
@[simp] theorem State.setEnv_flags (x : Env) : (s.setEnv x).flags = s.flags := rfl
@[simp] theorem State.setEnv_errors (x : Env) : (s.setEnv x).errors = s.errors := rfl
@[simp] theorem State.setEnv_fifo (x : Env) : (s.setEnv x).fifo = s.fifo := rfl
@[simp] theorem State.setEnv_userParam (x : Env) : (s.setEnv x).userParam = s.userParam := rfl
@[simp] theorem State.setEnv_sbSel (x : Env) : (s.setEnv x).sbSel = s.sbSel := rfl
@[simp] theorem State.setEnv_env (x : Env) : (s.setEnv x).env = x := rfl
@[simp] theorem State.setEnv_setEnv (x y : Env) : (s.setEnv x).setEnv y = s.setEnv y := rfl
@[simp] theorem State.setEnv_same : s.setEnv s.env = s := rfl

/-! ### setBuffer -/

@[simp] theorem State.setBuffer_build (m : Memory) (n : Nat) : (s.setBuffer m n).build = s.build := rfl
@[simp] theorem State.setBuffer_phase (m : Memory) (n : Nat) : (s.setBuffer m n).phase = s.phase := rfl
@[simp] theorem State.setBuffer_mem (m : Memory) (n : Nat) : (s.setBuffer m n).mem = m := rfl
@[simp] theorem State.setBuffer_accLen (m : Memory) (n : Nat) : (s.setBuffer m n).accLen = n := rfl
@[simp] theorem State.setBuffer_sb (m : Memory) (n : Nat) : (s.setBuffer m n).sb = s.sb := rfl
@[simp] theorem State.setBuffer_bv (m : Memory) (n : Nat) : (s.setBuffer m n).bv = s.bv := rfl
@[simp] theorem State.setBuffer_fields (m : Memory) (n : Nat) : (s.setBuffer m n).fields = s.fields := rfl
@[simp] theorem State.setBuffer_candOffset (m : Memory) (n : Nat) : (s.setBuffer m n).candOffset = s.candOffset := rfl
@[simp] theorem State.setBuffer_flags (m : Memory) (n : Nat) : (s.setBuffer m n).flags = s.flags := rfl
@[simp] theorem State.setBuffer_errors (m : Memory) (n : Nat) : (s.setBuffer m n).errors = s.errors := rfl
@[simp] theorem State.setBuffer_fifo (m : Memory) (n : Nat) : (s.setBuffer m n).fifo = s.fifo := rfl
@[simp] theorem State.setBuffer_userParam (m : Memory) (n : Nat) : (s.setBuffer m n).userParam = s.userParam := rfl
@[simp] theorem State.setBuffer_sbSel (m : Memory) (n : Nat) : (s.setBuffer m n).sbSel = s.sbSel := rfl
@[simp] theorem State.setBuffer_env (m : Memory) (n : Nat) : (s.setBuffer m n).env = s.env := rfl

/-! ### The host's side -/

@[simp] theorem Env.setAgenda_agenda (e : Env) (x : List Event) : (e.setAgenda x).agenda = x := rfl
@[simp] theorem Env.setAgenda_offers (e : Env) (x : List Event) : (e.setAgenda x).offers = e.offers := rfl
@[simp] theorem Env.setAgenda_passGot (e : Env) (x : List Event) : (e.setAgenda x).passGot = e.passGot := rfl
@[simp] theorem Env.setAgenda_recGot (e : Env) (x : List Event) : (e.setAgenda x).recGot = e.recGot := rfl
@[simp] theorem Env.setAgenda_answers (e : Env) (x : List Event) : (e.setAgenda x).answers = e.answers := rfl
@[simp] theorem Env.setAgenda_verCalls (e : Env) (x : List Event) : (e.setAgenda x).verCalls = e.verCalls := rfl
@[simp] theorem Env.setAgenda_freeReads (e : Env) (x : List Event) : (e.setAgenda x).freeReads = e.freeReads := rfl

@[simp] theorem Env.setOffers_agenda (e : Env) (x : List Block) : (e.setOffers x).agenda = e.agenda := rfl
@[simp] theorem Env.setOffers_offers (e : Env) (x : List Block) : (e.setOffers x).offers = x := rfl
@[simp] theorem Env.setOffers_passGot (e : Env) (x : List Block) : (e.setOffers x).passGot = e.passGot := rfl
@[simp] theorem Env.setOffers_recGot (e : Env) (x : List Block) : (e.setOffers x).recGot = e.recGot := rfl
@[simp] theorem Env.setOffers_answers (e : Env) (x : List Block) : (e.setOffers x).answers = e.answers := rfl
@[simp] theorem Env.setOffers_verCalls (e : Env) (x : List Block) : (e.setOffers x).verCalls = e.verCalls := rfl
@[simp] theorem Env.setOffers_freeReads (e : Env) (x : List Block) : (e.setOffers x).freeReads = e.freeReads := rfl

@[simp] theorem Env.gotBlock_agenda (e : Env) (x : Block) : (e.gotBlock x).agenda = e.agenda := rfl
@[simp] theorem Env.gotBlock_offers (e : Env) (x : Block) : (e.gotBlock x).offers = e.offers := rfl
@[simp] theorem Env.gotBlock_passGot (e : Env) (x : Block) : (e.gotBlock x).passGot = e.passGot ++ [x] := rfl
@[simp] theorem Env.gotBlock_recGot (e : Env) (x : Block) : (e.gotBlock x).recGot = e.recGot := rfl
@[simp] theorem Env.gotBlock_answers (e : Env) (x : Block) : (e.gotBlock x).answers = e.answers := rfl
@[simp] theorem Env.gotBlock_verCalls (e : Env) (x : Block) : (e.gotBlock x).verCalls = e.verCalls := rfl
@[simp] theorem Env.gotBlock_freeReads (e : Env) (x : Block) : (e.gotBlock x).freeReads = e.freeReads := rfl

@[simp] theorem Env.gotRecord_agenda (e : Env) (x : RecordWords) : (e.gotRecord x).agenda = e.agenda := rfl
@[simp] theorem Env.gotRecord_offers (e : Env) (x : RecordWords) : (e.gotRecord x).offers = e.offers := rfl
@[simp] theorem Env.gotRecord_passGot (e : Env) (x : RecordWords) : (e.gotRecord x).passGot = e.passGot := rfl
@[simp] theorem Env.gotRecord_recGot (e : Env) (x : RecordWords) : (e.gotRecord x).recGot = e.recGot ++ [x] := rfl
@[simp] theorem Env.gotRecord_answers (e : Env) (x : RecordWords) : (e.gotRecord x).answers = e.answers := rfl
@[simp] theorem Env.gotRecord_verCalls (e : Env) (x : RecordWords) : (e.gotRecord x).verCalls = e.verCalls := rfl
@[simp] theorem Env.gotRecord_freeReads (e : Env) (x : RecordWords) : (e.gotRecord x).freeReads = e.freeReads := rfl

@[simp] theorem Env.gotAnswer_agenda (e : Env) (x : BusAnswer) : (e.gotAnswer x).agenda = e.agenda := rfl
@[simp] theorem Env.gotAnswer_offers (e : Env) (x : BusAnswer) : (e.gotAnswer x).offers = e.offers := rfl
@[simp] theorem Env.gotAnswer_passGot (e : Env) (x : BusAnswer) : (e.gotAnswer x).passGot = e.passGot := rfl
@[simp] theorem Env.gotAnswer_recGot (e : Env) (x : BusAnswer) : (e.gotAnswer x).recGot = e.recGot := rfl
@[simp] theorem Env.gotAnswer_answers (e : Env) (x : BusAnswer) : (e.gotAnswer x).answers = e.answers ++ [x] := rfl
@[simp] theorem Env.gotAnswer_verCalls (e : Env) (x : BusAnswer) : (e.gotAnswer x).verCalls = e.verCalls := rfl
@[simp] theorem Env.gotAnswer_freeReads (e : Env) (x : BusAnswer) : (e.gotAnswer x).freeReads = e.freeReads := rfl

@[simp] theorem Env.gotPayload_agenda (e : Env) (x : Vector Bool 75) : (e.gotPayload x).agenda = e.agenda := rfl
@[simp] theorem Env.gotPayload_offers (e : Env) (x : Vector Bool 75) : (e.gotPayload x).offers = e.offers := rfl
@[simp] theorem Env.gotPayload_passGot (e : Env) (x : Vector Bool 75) : (e.gotPayload x).passGot = e.passGot := rfl
@[simp] theorem Env.gotPayload_recGot (e : Env) (x : Vector Bool 75) : (e.gotPayload x).recGot = e.recGot := rfl
@[simp] theorem Env.gotPayload_answers (e : Env) (x : Vector Bool 75) : (e.gotPayload x).answers = e.answers := rfl
@[simp] theorem Env.gotPayload_verCalls (e : Env) (x : Vector Bool 75) : (e.gotPayload x).verCalls = e.verCalls ++ [x] := rfl
@[simp] theorem Env.gotPayload_freeReads (e : Env) (x : Vector Bool 75) : (e.gotPayload x).freeReads = e.freeReads := rfl

@[simp] theorem Env.countFreeRead_agenda (e : Env) : (e.countFreeRead).agenda = e.agenda := rfl
@[simp] theorem Env.countFreeRead_offers (e : Env) : (e.countFreeRead).offers = e.offers := rfl
@[simp] theorem Env.countFreeRead_passGot (e : Env) : (e.countFreeRead).passGot = e.passGot := rfl
@[simp] theorem Env.countFreeRead_recGot (e : Env) : (e.countFreeRead).recGot = e.recGot := rfl
@[simp] theorem Env.countFreeRead_answers (e : Env) : (e.countFreeRead).answers = e.answers := rfl
@[simp] theorem Env.countFreeRead_verCalls (e : Env) : (e.countFreeRead).verCalls = e.verCalls := rfl
@[simp] theorem Env.countFreeRead_freeReads (e : Env) : (e.countFreeRead).freeReads = e.freeReads + 1 := rfl

/-! ### The operations built from them -/

@[simp] theorem State.setAgenda_eq (l : List Event) : s.setAgenda l = s.setEnv (s.env.setAgenda l) := rfl
@[simp] theorem State.setOffers_eq (l : List Block) : s.setOffers l = s.setEnv (s.env.setOffers l) := rfl
@[simp] theorem State.passTo_eq (b : Block) : s.passTo b = s.setEnv (s.env.gotBlock b) := rfl
@[simp] theorem State.recTo_eq (r : RecordWords) : s.recTo r = s.setEnv (s.env.gotRecord r) := rfl
@[simp] theorem State.answer_eq (a : BusAnswer) : s.answer a = s.setEnv (s.env.gotAnswer a) := rfl
@[simp] theorem State.askVerifier_eq :
    s.askVerifier = s.setEnv (s.env.gotPayload s.payload) := rfl
@[simp] theorem State.countFreeRead_eq :
    s.countFreeRead = s.setEnv s.env.countFreeRead := rfl
@[simp] theorem State.bufAppend_eq (b : Block) :
    s.bufAppend b = s.setBuffer (s.mem.store s.accLen b) (s.accLen + s.build.params.blockSize) := rfl
@[simp] theorem State.bufClear_eq : s.bufClear = s.setBuffer [] 0 := rfl
@[simp] theorem State.raise_eq (e : ErrorFlag) : s.raise e = s.setErrors (s.errors.set e) := rfl
@[simp] theorem State.ackErrors_eq (v : Word) : s.ackErrors v = s.setErrors (s.errors.ack v) := rfl
@[simp] theorem State.haltOnBlock_eq :
    s.haltOnBlock = (s.setErrors (s.errors.set .blockErr)).setPhase .halted := rfl
@[simp] theorem State.sendRecord_eq :
    s.sendRecord = (s.setFifo (s.fifo ++ [s.record])).setFlags s.flags.emitted := rfl

/-! ### Reset -/

@[simp] theorem State.resetWith_build (b : Build) : (State.resetWith b).build = b := rfl
@[simp] theorem State.resetWith_phase (b : Build) : (State.resetWith b).phase = .accum := rfl
@[simp] theorem State.resetWith_mem (b : Build) : (State.resetWith b).mem = [] := rfl
@[simp] theorem State.resetWith_accLen (b : Build) : (State.resetWith b).accLen = 0 := rfl
@[simp] theorem State.resetWith_sb (b : Build) : (State.resetWith b).sb = Vector.replicate 96 0 := rfl
@[simp] theorem State.resetWith_bv (b : Build) : (State.resetWith b).bv = Vector.replicate 96 false := rfl
@[simp] theorem State.resetWith_candOffset (b : Build) : (State.resetWith b).candOffset = 0 := rfl
@[simp] theorem State.resetWith_fields (b : Build) :
    (State.resetWith b).fields = { meterId := 0, meterType := 0, physTamper := 0, encTamper := 0, consumption := 0, altId := 0 } := rfl
@[simp] theorem State.resetWith_flags (b : Build) :
    (State.resetWith b).flags = { matched := false, decOk := false, lowConf := false, vRej := false } := rfl
@[simp] theorem State.resetWith_errors (b : Build) :
    (State.resetWith b).errors = { illegalCmd := false, rangeErr := false, stateErr := false, blockErr := false } := rfl
@[simp] theorem State.resetWith_fifo (b : Build) : (State.resetWith b).fifo = [] := rfl
@[simp] theorem State.resetWith_userParam (b : Build) : (State.resetWith b).userParam = b.params.userParamInit := rfl
@[simp] theorem State.resetWith_sbSel (b : Build) : (State.resetWith b).sbSel = 0 := rfl
@[simp] theorem State.resetWith_env (b : Build) : (State.resetWith b).env = Env.empty := rfl
@[simp] theorem State.softReset_eq : s.softReset = (State.resetWith s.build).setEnv s.env := rfl

end Sys2Proof.Machine
end

