-- ==== Sys2Proof/Laws/Operands.lean ====
section
/-! SUPPORT. What the shared readers do: tabulated registers, bit sequences and the CSR map. -/

namespace Sys2Proof.Machine

/-- Element n of a tabulated register is f n. -/
@[simp] theorem tabulate_getD {α : Type} (k : Nat) (f : Nat → α) (d : α) {n : Nat} (h : n < k) :
    (tabulate k f).toList.getD n d = f n := by
  simp [tabulate, Vector.toList, List.getD, h]

/-- Outside its range a tabulated register reads as the default. -/
theorem tabulate_getD_out {α : Type} (k : Nat) (f : Nat → α) (d : α) {n : Nat} (h : k ≤ n) :
    (tabulate k f).toList.getD n d = d := by
  simp [tabulate, Vector.toList, List.getD, Nat.not_lt.mpr h]

/-- The elements of a tabulated register. -/
@[simp] theorem tabulate_toList {α : Type} (k : Nat) (f : Nat → α) : (tabulate k f).toList = (List.range k).map f := rfl

/-- A register file that holds one value everywhere, as after reset. -/
theorem replicate_getD {α : Type} (k : Nat) (x d : α) {n : Nat} (h : n < k) :
    (Vector.replicate k x).toList.getD n d = x := by
  rw [Vector.toList_replicate, List.getD_eq_getElem?_getD, List.getElem?_replicate, if_pos h]
  rfl

/-- After reset every SB[n] is 0 and every BV[n] is 0 (R23, R24). -/
theorem State.SB_resetWith (b : Build) {n : Nat} (h : n < 96) : (State.resetWith b).SB n = 0 := replicate_getD 96 _ _ h
theorem State.BV_resetWith (b : Build) {n : Nat} (h : n < 96) : (State.resetWith b).BV n = false :=
  replicate_getD 96 _ _ h

/-- zeros(k) has k bits (R10). -/
@[simp] theorem length_zeros (k : Nat) : (zeros k).length = k := List.length_replicate

/-- The bit sequence of BV has 96 elements (R24). -/
@[simp] theorem State.length_bits (s : State) : s.bits.length = 96 := by simp [State.bits]

/-- A sub-sequence of dc past its padding is the sub-sequence of BV 159 bits earlier (R182). -/
theorem State.span_dc (s : State) {a b : Nat} (ha : 180 ≤ a) (hab : a ≤ b) (hb : b ≤ 255) :
    span s.dc a b = span s.bits (a - 159) (b - 159) := by
  apply List.ext_getElem?
  intro i
  simp only [span, List.getElem?_take, List.getElem?_drop]
  rw [show b - 159 - (a - 159) = b - a by omega]
  split
  · rename_i hi
    have hlen : s.bv.toList.length = 96 := by simp
    rw [State.dc, List.getElem?_append_right (by rw [length_zeros]; omega), length_zeros]
    simp only [State.payload, tabulate, Vector.toList, List.getElem?_map, List.getElem?_range (show a + i - 180 < 75 by omega),
      Option.map_some, State.BV, State.bits, List.getD]
    rw [show 21 + (a + i - 180) = a - 159 + i by omega, List.getElem?_eq_getElem (by simp; omega)]
    rfl
  · rfl

/-- val of one more bit. -/
theorem val_append_bit (s : List Bool) (b : Bool) : val (s ++ [b]) = 2 * val s + b.toNat := by
  simp [val]

/-- val of the empty sequence is 0 (R11). -/
@[simp] theorem val_nil : val [] = 0 := rfl

/-- val fits the number of bits. -/
theorem val_lt (s : List Bool) : val s < 2 ^ s.length := by
  induction s using List.reverseRecOn with
  | nil => simp
  | append_singleton s b ih =>
    rw [val_append_bit, List.length_append, List.length_singleton, Nat.pow_succ]
    have : b.toNat ≤ 1 := Bool.toNat_le b
    omega

/-- A sub-sequence inside the sequence has the length R10 gives it. -/
theorem length_span (s : List Bool) {a b : Nat} (h : b ≤ s.length) : (span s a b).length = b - a := by
  simp only [span, List.length_take, List.length_drop]
  omega

/-- Element i of a sub-sequence. -/
theorem span_getD (s : List Bool) {a b i : Nat} (h : i < b - a) :
    (span s a b).getD i false = s.getD (a + i) false := by
  simp [span, List.getD, List.getElem?_drop, h]

/-- The register at a register's own offset (R35 to R49). -/
@[simp] theorem csrAt_offset (c : Csr) : csrAt c.offset = some c := by cases c <;> rfl

/-- Every mapped offset is a register's own. -/
theorem offset_of_csrAt {x : Nat} {c : Csr} (h : csrAt x = some c) : c.offset = x := by
  unfold csrAt at h
  split at h <;> simp at h <;> subst h <;> rfl

end Sys2Proof.Machine
end

