-- ==== Sys2Proof/Laws/Correlator.lean ====
section
/-! SUPPORT. The correlator: running sums are the cumulative energies of R122, and CORR's two outcomes. -/

namespace Sys2Proof.Machine

/-- There are as many running sums as elements. -/
@[simp] theorem length_runningSums (c : Int) (l : List Int) : (runningSums c l).length = l.length := by
  induction l generalizing c with
  | nil => rfl
  | cons p ps ih => simp [runningSums, ih]

/-- A running sum is the sum so far plus the elements up to and including its own (R122). -/
theorem runningSums_getD (c : Int) (l : List Int) {k : Nat} (h : k < l.length) :
    (runningSums c l).getD k 0 = c + ∑ j ∈ Finset.range (k + 1), l.getD j 0 := by
  induction l generalizing c k with
  | nil => simp at h
  | cons p ps ih =>
    cases k with
    | zero => simp [runningSums]
    | succ k =>
      rw [Finset.sum_range_succ']
      simp only [runningSums, List.getD_cons_succ, List.getD_cons_zero]
      rw [ih _ (by simpa using h)]
      ring

/-- Element j of the window's powers is p_a[j] (R120). -/
theorem State.powers_getD (s : State) (a : Nat) {j : Nat} (h : j ≤ s.params.span) :
    (s.powers a).getD j 0 = s.power (a + j) := by
  simp [State.powers, List.getD, Nat.lt_succ_of_le h]

/-- Within the window the running sums are the cumulative energies c_a[k] (R122). -/
theorem State.runningSums_powers (s : State) (a : Nat) {k : Nat} (h : k ≤ s.params.span) :
    (runningSums 0 (s.powers a)).getD k 0 = s.energy a k := by
  rw [runningSums_getD _ _ (by simp [State.powers, Nat.lt_succ_of_le h]), State.energy, zero_add]
  refine Finset.sum_congr rfl fun j hj => s.powers_getD a ?_
  have := Finset.mem_range.mp hj
  omega

/-- Element n of the soft-bit file, by the formula of R124. -/
theorem State.softBits_getD (s : State) (a : Nat) {n : Nat} (h : n < 96) :
    (s.softBits a).toList.getD n 0 =
      2 * s.energy a (n * s.params.p + s.params.half) - s.energy a (n * s.params.p)
        - s.energy a (n * s.params.p + s.params.p) := by
  have hn : (n + 1) * s.params.p ≤ 96 * s.params.p := Nat.mul_le_mul_right _ (by omega)
  have hs : s.params.span = 96 * s.params.p := rfl
  have hh : s.params.half = s.params.p / 2 := rfl
  rw [Nat.succ_mul] at hn
  rw [State.softBits, tabulate_getD _ _ _ h, softBit, s.runningSums_powers a (by omega),
    s.runningSums_powers a (by omega), s.runningSums_powers a (by omega)]

/-- A power is never negative. -/
theorem State.power_nonneg (s : State) (k : Nat) : 0 ≤ s.power k := by
  simp only [State.power]
  exact add_nonneg (mul_self_nonneg _) (mul_self_nonneg _)

/-- CORR's two outcomes (R124). -/
theorem State.corr_cases (s : State) (a : Nat) :
    (s.ls < a + s.params.win ∧ s.corr a = s.raise .rangeErr) ∨
    (a + s.params.win ≤ s.ls ∧
      s.corr a = ((s.setSb (s.softBits a)).setCandOffset (BitVec.ofNat 28 a)).setFlags s.flags.cleared) := by
  unfold State.corr
  split
  · exact .inl ⟨by assumption, rfl⟩
  · exact .inr ⟨by omega, rfl⟩

end Sys2Proof.Machine
end

