-- ==== Sys2Proof/Laws/Decode.lean ====
section
/-! SUPPORT. The fields of a command word and of an encoded command. -/

namespace Sys2Proof

/-- ARG is below 2^28. -/
theorem argField_lt (w : Word) : argField w < 2 ^ 28 := Nat.mod_lt _ (by decide)

/-- OP is below 16. -/
theorem opField_lt (w : Word) : opField w < 16 := by
  have := w.isLt
  unfold opField
  omega

/-- A word is its two fields. -/
theorem word_of_fields (w : Word) : w.toNat = opField w * 2 ^ 28 + argField w := by
  unfold opField argField
  omega

/-- An opcode is one of 0 .. 8. -/
theorem Instr.opcode_lt (i : Instr) : i.opcode < 9 := by cases i <;> simp [Instr.opcode]

/-- A well-formed command's operand fits ARG. -/
theorem Instr.arg_lt {i : Instr} (h : i.wellFormed = true) : i.arg < 2 ^ 28 := by
  cases i <;> simp_all [Instr.wellFormed, Instr.arg]

/-- The number an encoded command is. -/
theorem toNat_encode (i : Instr) : (encode i).toNat = i.opcode * 2 ^ 28 + i.arg % 2 ^ 28 := by
  have := Instr.opcode_lt i
  simp only [encode, BitVec.toNat_append, BitVec.toNat_ofNat]
  rw [Nat.shiftLeft_eq, ← Nat.shiftLeft_eq, ← Nat.shiftLeft_add_eq_or_of_lt (Nat.mod_lt _ (by decide)), Nat.shiftLeft_eq,
    Nat.mod_eq_of_lt (by omega : i.opcode < 2 ^ 4)]

/-- OP of an encoded command. -/
theorem opField_encode (i : Instr) : opField (encode i) = i.opcode := by
  have := Nat.mod_lt i.arg (y := 2 ^ 28) (by decide)
  rw [opField, toNat_encode]
  omega

/-- ARG of an encoded command. -/
theorem argField_encode (i : Instr) : argField (encode i) = i.arg % 2 ^ 28 := by
  rw [argField, toNat_encode]
  omega

end Sys2Proof
end

