-- ==== Sys2Proof/Laws/Ops.lean ====
section
/-! SUPPORT. One lemma per shared operation: everything it can do. -/

namespace Sys2Proof.Machine

/-- A command's two outcomes (R85). -/
theorem State.command_cases (s : State) (f : State → State) :
    (s.phase = .accum ∧ s.command f = f s) ∨ (s.mode ≠ .accum ∧ s.command f = s.raise .stateErr) := by
  unfold State.command
  split
  · rename_i h
    refine .inl ⟨?_, rfl⟩
    cases hp : s.phase <;> simp [State.mode, hp, Phase.mode] at h ⊢
  · exact .inr ⟨by assumption, rfl⟩

/-- EMIT's three outcomes (R190, R277). -/
theorem State.emitThen_cases (s : State) (hold done : Phase) :
    (s.flags.decOk = false ∧ s.emitThen hold done = s.setPhase done) ∨
    (s.flags.decOk = true ∧ s.fifo.length < s.params.recDepth ∧
      s.emitThen hold done = s.sendRecord.setPhase done) ∨
    (s.flags.decOk = true ∧ s.params.recDepth ≤ s.fifo.length ∧ s.emitThen hold done = s.setPhase hold) := by
  unfold State.emitThen
  cases hd : s.flags.decOk
  · exact .inl ⟨rfl, rfl⟩
  · by_cases hr : s.fifo.length < s.params.recDepth
    · exact .inr (.inl ⟨rfl, hr, by simp [State.hasRoom, hr]⟩)
    · exact .inr (.inr ⟨rfl, by omega, by simp [State.hasRoom, hr]⟩)

/-- DECODE's three outcomes (R184). -/
theorem State.decodeFrame_cases (s : State) :
    (s.flags.matched = false ∧ s.decodeFrame = s.setFlags s.flags.noCandidate) ∨
    (s.flags.matched = true ∧ s.verdict = false ∧ s.decodeFrame = s.consult.setFlags s.flags.rejected) ∨
    (s.flags.matched = true ∧ s.verdict = true ∧
      s.decodeFrame = (s.consult.setFields s.extracted).setFlags
        (s.flags.accepted (decide (s.params.verifyMode = .disabled)))) := by
  unfold State.decodeFrame State.decodeWith
  cases s.flags.matched <;> cases s.verdict <;> simp

/-- The verifier's port changes the environment only (R181). -/
theorem State.consult_eq (s : State) : ∃ x, s.consult = s.setEnv x := by
  unfold State.consult
  split
  · exact ⟨s.env, rfl⟩
  · exact ⟨_, rfl⟩

/-- A rejection comes from a verifier (R181). -/
theorem State.verdict_false {s : State} (h : s.verdict = false) : s.params.verifyMode = .enabled := by
  unfold State.verdict at h
  split at h
  · simp at h
  · assumption

/-- Taking a block's two outcomes (R100, R244). -/
theorem State.acceptBlock_cases (s : State) (b : Block) :
    (b.length = s.params.blockSize ∧ s.acceptBlock b = s.setPhase (.passHold b)) ∨
    (b.length ≠ s.params.blockSize ∧ s.acceptBlock b = s.haltOnBlock) := by
  unfold State.acceptBlock Params.wellFormedBlock
  by_cases h : b.length = s.params.blockSize
  · exact .inl ⟨h, by simp [h]⟩
  · exact .inr ⟨h, by simp [h]⟩

/-- PMATCH's comparison, bit by bit (R150). -/
theorem State.preambleMatch_iff (s : State) :
    s.preambleMatch = true ↔ ∀ i < 21, s.BV i = s.params.preamble.toList.getD i false := by
  simp [State.preambleMatch]

end Sys2Proof.Machine
end

