-- ==== Sys2Proof/Laws/Frames.lean ====
section
/-! SUPPORT. What each reader of the state sees after an update that does not touch what it reads, and what CORR, SLICE, PMATCH,
DECODE and EMIT leave alone. -/

namespace Sys2Proof.Machine

variable (s : State)

/-! ### params -/

@[simp] theorem State.params_setPhase (x : Phase) : (s.setPhase x).params = s.params := rfl
@[simp] theorem State.params_setSb (x : Vector Int 96) : (s.setSb x).params = s.params := rfl
@[simp] theorem State.params_setBv (x : Vector Bool 96) : (s.setBv x).params = s.params := rfl
@[simp] theorem State.params_setFields (x : FieldRegs) : (s.setFields x).params = s.params := rfl
@[simp] theorem State.params_setCandOffset (x : BitVec 28) : (s.setCandOffset x).params = s.params := rfl
@[simp] theorem State.params_setFlags (x : StatusFlags) : (s.setFlags x).params = s.params := rfl
@[simp] theorem State.params_setErrors (x : ErrorFlags) : (s.setErrors x).params = s.params := rfl
@[simp] theorem State.params_setFifo (x : List Record) : (s.setFifo x).params = s.params := rfl
@[simp] theorem State.params_setUserParam (x : Word) : (s.setUserParam x).params = s.params := rfl
@[simp] theorem State.params_setSbSel (x : BitVec 7) : (s.setSbSel x).params = s.params := rfl
@[simp] theorem State.params_setEnv (x : Env) : (s.setEnv x).params = s.params := rfl
@[simp] theorem State.params_setBuffer (m : Memory) (l : Nat) : (s.setBuffer m l).params = s.params := rfl

/-! ### mode -/

@[simp] theorem State.mode_setSb (x : Vector Int 96) : (s.setSb x).mode = s.mode := rfl
@[simp] theorem State.mode_setBv (x : Vector Bool 96) : (s.setBv x).mode = s.mode := rfl
@[simp] theorem State.mode_setFields (x : FieldRegs) : (s.setFields x).mode = s.mode := rfl
@[simp] theorem State.mode_setCandOffset (x : BitVec 28) : (s.setCandOffset x).mode = s.mode := rfl
@[simp] theorem State.mode_setFlags (x : StatusFlags) : (s.setFlags x).mode = s.mode := rfl
@[simp] theorem State.mode_setErrors (x : ErrorFlags) : (s.setErrors x).mode = s.mode := rfl
@[simp] theorem State.mode_setFifo (x : List Record) : (s.setFifo x).mode = s.mode := rfl
@[simp] theorem State.mode_setUserParam (x : Word) : (s.setUserParam x).mode = s.mode := rfl
@[simp] theorem State.mode_setSbSel (x : BitVec 7) : (s.setSbSel x).mode = s.mode := rfl
@[simp] theorem State.mode_setEnv (x : Env) : (s.setEnv x).mode = s.mode := rfl
@[simp] theorem State.mode_setBuffer (m : Memory) (l : Nat) : (s.setBuffer m l).mode = s.mode := rfl

/-! ### ls -/

@[simp] theorem State.ls_setPhase (x : Phase) : (s.setPhase x).ls = s.ls := rfl
@[simp] theorem State.ls_setSb (x : Vector Int 96) : (s.setSb x).ls = s.ls := rfl
@[simp] theorem State.ls_setBv (x : Vector Bool 96) : (s.setBv x).ls = s.ls := rfl
@[simp] theorem State.ls_setFields (x : FieldRegs) : (s.setFields x).ls = s.ls := rfl
@[simp] theorem State.ls_setCandOffset (x : BitVec 28) : (s.setCandOffset x).ls = s.ls := rfl
@[simp] theorem State.ls_setFlags (x : StatusFlags) : (s.setFlags x).ls = s.ls := rfl
@[simp] theorem State.ls_setErrors (x : ErrorFlags) : (s.setErrors x).ls = s.ls := rfl
@[simp] theorem State.ls_setFifo (x : List Record) : (s.setFifo x).ls = s.ls := rfl
@[simp] theorem State.ls_setUserParam (x : Word) : (s.setUserParam x).ls = s.ls := rfl
@[simp] theorem State.ls_setSbSel (x : BitVec 7) : (s.setSbSel x).ls = s.ls := rfl
@[simp] theorem State.ls_setEnv (x : Env) : (s.setEnv x).ls = s.ls := rfl

/-! ### SB -/

@[simp] theorem State.SB_setPhase (x : Phase) (n : Nat) : (s.setPhase x).SB n = s.SB n := rfl
@[simp] theorem State.SB_setBv (x : Vector Bool 96) (n : Nat) : (s.setBv x).SB n = s.SB n := rfl
@[simp] theorem State.SB_setFields (x : FieldRegs) (n : Nat) : (s.setFields x).SB n = s.SB n := rfl
@[simp] theorem State.SB_setCandOffset (x : BitVec 28) (n : Nat) : (s.setCandOffset x).SB n = s.SB n := rfl
@[simp] theorem State.SB_setFlags (x : StatusFlags) (n : Nat) : (s.setFlags x).SB n = s.SB n := rfl
@[simp] theorem State.SB_setErrors (x : ErrorFlags) (n : Nat) : (s.setErrors x).SB n = s.SB n := rfl
@[simp] theorem State.SB_setFifo (x : List Record) (n : Nat) : (s.setFifo x).SB n = s.SB n := rfl
@[simp] theorem State.SB_setUserParam (x : Word) (n : Nat) : (s.setUserParam x).SB n = s.SB n := rfl
@[simp] theorem State.SB_setSbSel (x : BitVec 7) (n : Nat) : (s.setSbSel x).SB n = s.SB n := rfl
@[simp] theorem State.SB_setEnv (x : Env) (n : Nat) : (s.setEnv x).SB n = s.SB n := rfl
@[simp] theorem State.SB_setBuffer (m : Memory) (l : Nat) (n : Nat) : (s.setBuffer m l).SB n = s.SB n := rfl

/-! ### BV -/

@[simp] theorem State.BV_setPhase (x : Phase) (n : Nat) : (s.setPhase x).BV n = s.BV n := rfl
@[simp] theorem State.BV_setSb (x : Vector Int 96) (n : Nat) : (s.setSb x).BV n = s.BV n := rfl
@[simp] theorem State.BV_setFields (x : FieldRegs) (n : Nat) : (s.setFields x).BV n = s.BV n := rfl
@[simp] theorem State.BV_setCandOffset (x : BitVec 28) (n : Nat) : (s.setCandOffset x).BV n = s.BV n := rfl
@[simp] theorem State.BV_setFlags (x : StatusFlags) (n : Nat) : (s.setFlags x).BV n = s.BV n := rfl
@[simp] theorem State.BV_setErrors (x : ErrorFlags) (n : Nat) : (s.setErrors x).BV n = s.BV n := rfl
@[simp] theorem State.BV_setFifo (x : List Record) (n : Nat) : (s.setFifo x).BV n = s.BV n := rfl
@[simp] theorem State.BV_setUserParam (x : Word) (n : Nat) : (s.setUserParam x).BV n = s.BV n := rfl
@[simp] theorem State.BV_setSbSel (x : BitVec 7) (n : Nat) : (s.setSbSel x).BV n = s.BV n := rfl
@[simp] theorem State.BV_setEnv (x : Env) (n : Nat) : (s.setEnv x).BV n = s.BV n := rfl
@[simp] theorem State.BV_setBuffer (m : Memory) (l : Nat) (n : Nat) : (s.setBuffer m l).BV n = s.BV n := rfl

/-! ### bits -/

@[simp] theorem State.bits_setPhase (x : Phase) : (s.setPhase x).bits = s.bits := rfl
@[simp] theorem State.bits_setSb (x : Vector Int 96) : (s.setSb x).bits = s.bits := rfl
@[simp] theorem State.bits_setFields (x : FieldRegs) : (s.setFields x).bits = s.bits := rfl
@[simp] theorem State.bits_setCandOffset (x : BitVec 28) : (s.setCandOffset x).bits = s.bits := rfl
@[simp] theorem State.bits_setFlags (x : StatusFlags) : (s.setFlags x).bits = s.bits := rfl
@[simp] theorem State.bits_setErrors (x : ErrorFlags) : (s.setErrors x).bits = s.bits := rfl
@[simp] theorem State.bits_setFifo (x : List Record) : (s.setFifo x).bits = s.bits := rfl
@[simp] theorem State.bits_setUserParam (x : Word) : (s.setUserParam x).bits = s.bits := rfl
@[simp] theorem State.bits_setSbSel (x : BitVec 7) : (s.setSbSel x).bits = s.bits := rfl
@[simp] theorem State.bits_setEnv (x : Env) : (s.setEnv x).bits = s.bits := rfl
@[simp] theorem State.bits_setBuffer (m : Memory) (l : Nat) : (s.setBuffer m l).bits = s.bits := rfl

/-! ### payload -/

@[simp] theorem State.payload_setPhase (x : Phase) : (s.setPhase x).payload = s.payload := rfl
@[simp] theorem State.payload_setSb (x : Vector Int 96) : (s.setSb x).payload = s.payload := rfl
@[simp] theorem State.payload_setFields (x : FieldRegs) : (s.setFields x).payload = s.payload := rfl
@[simp] theorem State.payload_setCandOffset (x : BitVec 28) : (s.setCandOffset x).payload = s.payload := rfl
@[simp] theorem State.payload_setFlags (x : StatusFlags) : (s.setFlags x).payload = s.payload := rfl
@[simp] theorem State.payload_setErrors (x : ErrorFlags) : (s.setErrors x).payload = s.payload := rfl
@[simp] theorem State.payload_setFifo (x : List Record) : (s.setFifo x).payload = s.payload := rfl
@[simp] theorem State.payload_setUserParam (x : Word) : (s.setUserParam x).payload = s.payload := rfl
@[simp] theorem State.payload_setSbSel (x : BitVec 7) : (s.setSbSel x).payload = s.payload := rfl
@[simp] theorem State.payload_setEnv (x : Env) : (s.setEnv x).payload = s.payload := rfl
@[simp] theorem State.payload_setBuffer (m : Memory) (l : Nat) : (s.setBuffer m l).payload = s.payload := rfl

/-! ### extracted -/

@[simp] theorem State.extracted_setPhase (x : Phase) : (s.setPhase x).extracted = s.extracted := rfl
@[simp] theorem State.extracted_setSb (x : Vector Int 96) : (s.setSb x).extracted = s.extracted := rfl
@[simp] theorem State.extracted_setFields (x : FieldRegs) : (s.setFields x).extracted = s.extracted := rfl
@[simp] theorem State.extracted_setCandOffset (x : BitVec 28) : (s.setCandOffset x).extracted = s.extracted := rfl
@[simp] theorem State.extracted_setFlags (x : StatusFlags) : (s.setFlags x).extracted = s.extracted := rfl
@[simp] theorem State.extracted_setErrors (x : ErrorFlags) : (s.setErrors x).extracted = s.extracted := rfl
@[simp] theorem State.extracted_setFifo (x : List Record) : (s.setFifo x).extracted = s.extracted := rfl
@[simp] theorem State.extracted_setUserParam (x : Word) : (s.setUserParam x).extracted = s.extracted := rfl
@[simp] theorem State.extracted_setSbSel (x : BitVec 7) : (s.setSbSel x).extracted = s.extracted := rfl
@[simp] theorem State.extracted_setEnv (x : Env) : (s.setEnv x).extracted = s.extracted := rfl
@[simp] theorem State.extracted_setBuffer (m : Memory) (l : Nat) : (s.setBuffer m l).extracted = s.extracted := rfl

/-! ### record -/

@[simp] theorem State.record_setPhase (x : Phase) : (s.setPhase x).record = s.record := rfl
@[simp] theorem State.record_setSb (x : Vector Int 96) : (s.setSb x).record = s.record := rfl
@[simp] theorem State.record_setBv (x : Vector Bool 96) : (s.setBv x).record = s.record := rfl
@[simp] theorem State.record_setErrors (x : ErrorFlags) : (s.setErrors x).record = s.record := rfl
@[simp] theorem State.record_setFifo (x : List Record) : (s.setFifo x).record = s.record := rfl
@[simp] theorem State.record_setUserParam (x : Word) : (s.setUserParam x).record = s.record := rfl
@[simp] theorem State.record_setSbSel (x : BitVec 7) : (s.setSbSel x).record = s.record := rfl
@[simp] theorem State.record_setEnv (x : Env) : (s.setEnv x).record = s.record := rfl
@[simp] theorem State.record_setBuffer (m : Memory) (l : Nat) : (s.setBuffer m l).record = s.record := rfl

/-! ### power -/

@[simp] theorem State.power_setPhase (x : Phase) (k : Nat) : (s.setPhase x).power k = s.power k := rfl
@[simp] theorem State.power_setSb (x : Vector Int 96) (k : Nat) : (s.setSb x).power k = s.power k := rfl
@[simp] theorem State.power_setBv (x : Vector Bool 96) (k : Nat) : (s.setBv x).power k = s.power k := rfl
@[simp] theorem State.power_setFields (x : FieldRegs) (k : Nat) : (s.setFields x).power k = s.power k := rfl
@[simp] theorem State.power_setCandOffset (x : BitVec 28) (k : Nat) : (s.setCandOffset x).power k = s.power k := rfl
@[simp] theorem State.power_setFlags (x : StatusFlags) (k : Nat) : (s.setFlags x).power k = s.power k := rfl
@[simp] theorem State.power_setErrors (x : ErrorFlags) (k : Nat) : (s.setErrors x).power k = s.power k := rfl
@[simp] theorem State.power_setFifo (x : List Record) (k : Nat) : (s.setFifo x).power k = s.power k := rfl
@[simp] theorem State.power_setUserParam (x : Word) (k : Nat) : (s.setUserParam x).power k = s.power k := rfl
@[simp] theorem State.power_setSbSel (x : BitVec 7) (k : Nat) : (s.setSbSel x).power k = s.power k := rfl
@[simp] theorem State.power_setEnv (x : Env) (k : Nat) : (s.setEnv x).power k = s.power k := rfl

/-! ### softBits -/

@[simp] theorem State.softBits_setPhase (x : Phase) (a : Nat) : (s.setPhase x).softBits a = s.softBits a := rfl
@[simp] theorem State.softBits_setSb (x : Vector Int 96) (a : Nat) : (s.setSb x).softBits a = s.softBits a := rfl
@[simp] theorem State.softBits_setBv (x : Vector Bool 96) (a : Nat) : (s.setBv x).softBits a = s.softBits a := rfl
@[simp] theorem State.softBits_setFields (x : FieldRegs) (a : Nat) : (s.setFields x).softBits a = s.softBits a := rfl
@[simp] theorem State.softBits_setCandOffset (x : BitVec 28) (a : Nat) : (s.setCandOffset x).softBits a = s.softBits a := rfl
@[simp] theorem State.softBits_setFlags (x : StatusFlags) (a : Nat) : (s.setFlags x).softBits a = s.softBits a := rfl
@[simp] theorem State.softBits_setErrors (x : ErrorFlags) (a : Nat) : (s.setErrors x).softBits a = s.softBits a := rfl
@[simp] theorem State.softBits_setFifo (x : List Record) (a : Nat) : (s.setFifo x).softBits a = s.softBits a := rfl
@[simp] theorem State.softBits_setUserParam (x : Word) (a : Nat) : (s.setUserParam x).softBits a = s.softBits a := rfl
@[simp] theorem State.softBits_setSbSel (x : BitVec 7) (a : Nat) : (s.setSbSel x).softBits a = s.softBits a := rfl
@[simp] theorem State.softBits_setEnv (x : Env) (a : Nat) : (s.setEnv x).softBits a = s.softBits a := rfl

/-! ### preambleMatch -/

@[simp] theorem State.preambleMatch_setPhase (x : Phase) : (s.setPhase x).preambleMatch = s.preambleMatch := rfl
@[simp] theorem State.preambleMatch_setSb (x : Vector Int 96) : (s.setSb x).preambleMatch = s.preambleMatch := rfl
@[simp] theorem State.preambleMatch_setFields (x : FieldRegs) : (s.setFields x).preambleMatch = s.preambleMatch := rfl
@[simp] theorem State.preambleMatch_setCandOffset (x : BitVec 28) : (s.setCandOffset x).preambleMatch = s.preambleMatch := rfl
@[simp] theorem State.preambleMatch_setFlags (x : StatusFlags) : (s.setFlags x).preambleMatch = s.preambleMatch := rfl
@[simp] theorem State.preambleMatch_setErrors (x : ErrorFlags) : (s.setErrors x).preambleMatch = s.preambleMatch := rfl
@[simp] theorem State.preambleMatch_setFifo (x : List Record) : (s.setFifo x).preambleMatch = s.preambleMatch := rfl
@[simp] theorem State.preambleMatch_setUserParam (x : Word) : (s.setUserParam x).preambleMatch = s.preambleMatch := rfl
@[simp] theorem State.preambleMatch_setSbSel (x : BitVec 7) : (s.setSbSel x).preambleMatch = s.preambleMatch := rfl
@[simp] theorem State.preambleMatch_setEnv (x : Env) : (s.setEnv x).preambleMatch = s.preambleMatch := rfl
@[simp] theorem State.preambleMatch_setBuffer (m : Memory) (l : Nat) : (s.setBuffer m l).preambleMatch = s.preambleMatch := rfl

/-! ### hasRoom -/

@[simp] theorem State.hasRoom_setPhase (x : Phase) : (s.setPhase x).hasRoom = s.hasRoom := rfl
@[simp] theorem State.hasRoom_setSb (x : Vector Int 96) : (s.setSb x).hasRoom = s.hasRoom := rfl
@[simp] theorem State.hasRoom_setBv (x : Vector Bool 96) : (s.setBv x).hasRoom = s.hasRoom := rfl
@[simp] theorem State.hasRoom_setFields (x : FieldRegs) : (s.setFields x).hasRoom = s.hasRoom := rfl
@[simp] theorem State.hasRoom_setCandOffset (x : BitVec 28) : (s.setCandOffset x).hasRoom = s.hasRoom := rfl
@[simp] theorem State.hasRoom_setFlags (x : StatusFlags) : (s.setFlags x).hasRoom = s.hasRoom := rfl
@[simp] theorem State.hasRoom_setErrors (x : ErrorFlags) : (s.setErrors x).hasRoom = s.hasRoom := rfl
@[simp] theorem State.hasRoom_setUserParam (x : Word) : (s.setUserParam x).hasRoom = s.hasRoom := rfl
@[simp] theorem State.hasRoom_setSbSel (x : BitVec 7) : (s.setSbSel x).hasRoom = s.hasRoom := rfl
@[simp] theorem State.hasRoom_setEnv (x : Env) : (s.setEnv x).hasRoom = s.hasRoom := rfl
@[simp] theorem State.hasRoom_setBuffer (m : Memory) (l : Nat) : (s.setBuffer m l).hasRoom = s.hasRoom := rfl

/-! ### verdict -/

@[simp] theorem State.verdict_setPhase (x : Phase) : (s.setPhase x).verdict = s.verdict := rfl
@[simp] theorem State.verdict_setSb (x : Vector Int 96) : (s.setSb x).verdict = s.verdict := rfl
@[simp] theorem State.verdict_setFields (x : FieldRegs) : (s.setFields x).verdict = s.verdict := rfl
@[simp] theorem State.verdict_setCandOffset (x : BitVec 28) : (s.setCandOffset x).verdict = s.verdict := rfl
@[simp] theorem State.verdict_setFlags (x : StatusFlags) : (s.setFlags x).verdict = s.verdict := rfl
@[simp] theorem State.verdict_setErrors (x : ErrorFlags) : (s.setErrors x).verdict = s.verdict := rfl
@[simp] theorem State.verdict_setFifo (x : List Record) : (s.setFifo x).verdict = s.verdict := rfl
@[simp] theorem State.verdict_setUserParam (x : Word) : (s.setUserParam x).verdict = s.verdict := rfl
@[simp] theorem State.verdict_setSbSel (x : BitVec 7) : (s.setSbSel x).verdict = s.verdict := rfl
@[simp] theorem State.verdict_setEnv (x : Env) : (s.setEnv x).verdict = s.verdict := rfl
@[simp] theorem State.verdict_setBuffer (m : Memory) (l : Nat) : (s.setBuffer m l).verdict = s.verdict := rfl

@[simp] theorem State.mode_setPhase (x : Phase) : (s.setPhase x).mode = x.mode := rfl

/-- CORR writes SB, CAND_OFFSET, flags and errors only (R124). -/
theorem State.corr_eq (a : Nat) : ∃ b c f e,
    s.corr a = (((s.setSb b).setCandOffset c).setFlags f).setErrors e := by
  rcases s.corr_cases a with ⟨-, h⟩ | ⟨-, h⟩
  · exact ⟨s.sb, s.candOffset, s.flags, _, h⟩
  · exact ⟨s.softBits a, BitVec.ofNat 28 a, s.flags.cleared, s.errors, h⟩

/-- DECODE writes the field registers and flags, and speaks on the VER port (R184). -/
theorem State.decodeFrame_eq : ∃ x f y, s.decodeFrame = ((s.setEnv x).setFields f).setFlags y := by
  obtain ⟨x, hx⟩ := s.consult_eq
  rcases s.decodeFrame_cases with ⟨-, h⟩ | ⟨-, -, h⟩ | ⟨-, -, h⟩
  · exact ⟨s.env, s.fields, _, h⟩
  · exact ⟨x, s.fields, _, by rw [h, hx]; rfl⟩
  · exact ⟨x, _, _, by rw [h, hx]⟩

/-- EMIT writes the phase, the FIFO and flags (R190). -/
theorem State.emitThen_eq (hold done : Phase) : ∃ x f y,
    s.emitThen hold done = ((s.setFifo f).setFlags y).setPhase x := by
  rcases s.emitThen_cases hold done with ⟨-, h⟩ | ⟨-, -, h⟩ | ⟨-, -, h⟩
  · exact ⟨done, s.fifo, s.flags, h⟩
  · exact ⟨done, _, _, h⟩
  · exact ⟨hold, s.fifo, s.flags, h⟩

/-! ### corr -/

@[simp] theorem State.corr_build (a : Nat) : (s.corr a).build = s.build := by
  obtain ⟨_, _, _, _, h⟩ := s.corr_eq a; rw [h]; rfl
@[simp] theorem State.corr_phase (a : Nat) : (s.corr a).phase = s.phase := by
  obtain ⟨_, _, _, _, h⟩ := s.corr_eq a; rw [h]; rfl
@[simp] theorem State.corr_mem (a : Nat) : (s.corr a).mem = s.mem := by
  obtain ⟨_, _, _, _, h⟩ := s.corr_eq a; rw [h]; rfl
@[simp] theorem State.corr_accLen (a : Nat) : (s.corr a).accLen = s.accLen := by
  obtain ⟨_, _, _, _, h⟩ := s.corr_eq a; rw [h]; rfl
@[simp] theorem State.corr_bv (a : Nat) : (s.corr a).bv = s.bv := by
  obtain ⟨_, _, _, _, h⟩ := s.corr_eq a; rw [h]; rfl
@[simp] theorem State.corr_fields (a : Nat) : (s.corr a).fields = s.fields := by
  obtain ⟨_, _, _, _, h⟩ := s.corr_eq a; rw [h]; rfl
@[simp] theorem State.corr_fifo (a : Nat) : (s.corr a).fifo = s.fifo := by
  obtain ⟨_, _, _, _, h⟩ := s.corr_eq a; rw [h]; rfl
@[simp] theorem State.corr_userParam (a : Nat) : (s.corr a).userParam = s.userParam := by
  obtain ⟨_, _, _, _, h⟩ := s.corr_eq a; rw [h]; rfl
@[simp] theorem State.corr_sbSel (a : Nat) : (s.corr a).sbSel = s.sbSel := by
  obtain ⟨_, _, _, _, h⟩ := s.corr_eq a; rw [h]; rfl
@[simp] theorem State.corr_env (a : Nat) : (s.corr a).env = s.env := by
  obtain ⟨_, _, _, _, h⟩ := s.corr_eq a; rw [h]; rfl

/-! ### slice -/

@[simp] theorem State.slice_build : (s.slice).build = s.build := rfl
@[simp] theorem State.slice_phase : (s.slice).phase = s.phase := rfl
@[simp] theorem State.slice_mem : (s.slice).mem = s.mem := rfl
@[simp] theorem State.slice_accLen : (s.slice).accLen = s.accLen := rfl
@[simp] theorem State.slice_sb : (s.slice).sb = s.sb := rfl
@[simp] theorem State.slice_fields : (s.slice).fields = s.fields := rfl
@[simp] theorem State.slice_candOffset : (s.slice).candOffset = s.candOffset := rfl
@[simp] theorem State.slice_errors : (s.slice).errors = s.errors := rfl
@[simp] theorem State.slice_fifo : (s.slice).fifo = s.fifo := rfl
@[simp] theorem State.slice_userParam : (s.slice).userParam = s.userParam := rfl
@[simp] theorem State.slice_sbSel : (s.slice).sbSel = s.sbSel := rfl
@[simp] theorem State.slice_env : (s.slice).env = s.env := rfl

/-! ### pmatch -/

@[simp] theorem State.pmatch_build : (s.pmatch).build = s.build := rfl
@[simp] theorem State.pmatch_phase : (s.pmatch).phase = s.phase := rfl
@[simp] theorem State.pmatch_mem : (s.pmatch).mem = s.mem := rfl
@[simp] theorem State.pmatch_accLen : (s.pmatch).accLen = s.accLen := rfl
@[simp] theorem State.pmatch_sb : (s.pmatch).sb = s.sb := rfl
@[simp] theorem State.pmatch_bv : (s.pmatch).bv = s.bv := rfl
@[simp] theorem State.pmatch_fields : (s.pmatch).fields = s.fields := rfl
@[simp] theorem State.pmatch_candOffset : (s.pmatch).candOffset = s.candOffset := rfl
@[simp] theorem State.pmatch_errors : (s.pmatch).errors = s.errors := rfl
@[simp] theorem State.pmatch_fifo : (s.pmatch).fifo = s.fifo := rfl
@[simp] theorem State.pmatch_userParam : (s.pmatch).userParam = s.userParam := rfl
@[simp] theorem State.pmatch_sbSel : (s.pmatch).sbSel = s.sbSel := rfl
@[simp] theorem State.pmatch_env : (s.pmatch).env = s.env := rfl

/-! ### decodeFrame -/

@[simp] theorem State.decodeFrame_build : (s.decodeFrame).build = s.build := by
  obtain ⟨_, _, _, h⟩ := s.decodeFrame_eq; rw [h]; rfl
@[simp] theorem State.decodeFrame_phase : (s.decodeFrame).phase = s.phase := by
  obtain ⟨_, _, _, h⟩ := s.decodeFrame_eq; rw [h]; rfl
@[simp] theorem State.decodeFrame_mem : (s.decodeFrame).mem = s.mem := by
  obtain ⟨_, _, _, h⟩ := s.decodeFrame_eq; rw [h]; rfl
@[simp] theorem State.decodeFrame_accLen : (s.decodeFrame).accLen = s.accLen := by
  obtain ⟨_, _, _, h⟩ := s.decodeFrame_eq; rw [h]; rfl
@[simp] theorem State.decodeFrame_sb : (s.decodeFrame).sb = s.sb := by
  obtain ⟨_, _, _, h⟩ := s.decodeFrame_eq; rw [h]; rfl
@[simp] theorem State.decodeFrame_bv : (s.decodeFrame).bv = s.bv := by
  obtain ⟨_, _, _, h⟩ := s.decodeFrame_eq; rw [h]; rfl
@[simp] theorem State.decodeFrame_candOffset : (s.decodeFrame).candOffset = s.candOffset := by
  obtain ⟨_, _, _, h⟩ := s.decodeFrame_eq; rw [h]; rfl
@[simp] theorem State.decodeFrame_errors : (s.decodeFrame).errors = s.errors := by
  obtain ⟨_, _, _, h⟩ := s.decodeFrame_eq; rw [h]; rfl
@[simp] theorem State.decodeFrame_fifo : (s.decodeFrame).fifo = s.fifo := by
  obtain ⟨_, _, _, h⟩ := s.decodeFrame_eq; rw [h]; rfl
@[simp] theorem State.decodeFrame_userParam : (s.decodeFrame).userParam = s.userParam := by
  obtain ⟨_, _, _, h⟩ := s.decodeFrame_eq; rw [h]; rfl
@[simp] theorem State.decodeFrame_sbSel : (s.decodeFrame).sbSel = s.sbSel := by
  obtain ⟨_, _, _, h⟩ := s.decodeFrame_eq; rw [h]; rfl

/-! ### emitThen -/

@[simp] theorem State.emitThen_build (hold done : Phase) : (s.emitThen hold done).build = s.build := by
  obtain ⟨_, _, _, h⟩ := s.emitThen_eq hold done; rw [h]; rfl
@[simp] theorem State.emitThen_mem (hold done : Phase) : (s.emitThen hold done).mem = s.mem := by
  obtain ⟨_, _, _, h⟩ := s.emitThen_eq hold done; rw [h]; rfl
@[simp] theorem State.emitThen_accLen (hold done : Phase) : (s.emitThen hold done).accLen = s.accLen := by
  obtain ⟨_, _, _, h⟩ := s.emitThen_eq hold done; rw [h]; rfl
@[simp] theorem State.emitThen_sb (hold done : Phase) : (s.emitThen hold done).sb = s.sb := by
  obtain ⟨_, _, _, h⟩ := s.emitThen_eq hold done; rw [h]; rfl
@[simp] theorem State.emitThen_bv (hold done : Phase) : (s.emitThen hold done).bv = s.bv := by
  obtain ⟨_, _, _, h⟩ := s.emitThen_eq hold done; rw [h]; rfl
@[simp] theorem State.emitThen_fields (hold done : Phase) : (s.emitThen hold done).fields = s.fields := by
  obtain ⟨_, _, _, h⟩ := s.emitThen_eq hold done; rw [h]; rfl
@[simp] theorem State.emitThen_candOffset (hold done : Phase) : (s.emitThen hold done).candOffset = s.candOffset := by
  obtain ⟨_, _, _, h⟩ := s.emitThen_eq hold done; rw [h]; rfl
@[simp] theorem State.emitThen_errors (hold done : Phase) : (s.emitThen hold done).errors = s.errors := by
  obtain ⟨_, _, _, h⟩ := s.emitThen_eq hold done; rw [h]; rfl
@[simp] theorem State.emitThen_userParam (hold done : Phase) : (s.emitThen hold done).userParam = s.userParam := by
  obtain ⟨_, _, _, h⟩ := s.emitThen_eq hold done; rw [h]; rfl
@[simp] theorem State.emitThen_sbSel (hold done : Phase) : (s.emitThen hold done).sbSel = s.sbSel := by
  obtain ⟨_, _, _, h⟩ := s.emitThen_eq hold done; rw [h]; rfl
@[simp] theorem State.emitThen_env (hold done : Phase) : (s.emitThen hold done).env = s.env := by
  obtain ⟨_, _, _, h⟩ := s.emitThen_eq hold done; rw [h]; rfl

/-! ### evaluate -/

@[simp] theorem State.evaluate_build (a : Nat) : (s.evaluate a).build = s.build := by
  simp [State.evaluate]
@[simp] theorem State.evaluate_phase (a : Nat) : (s.evaluate a).phase = s.phase := by
  simp [State.evaluate]
@[simp] theorem State.evaluate_mem (a : Nat) : (s.evaluate a).mem = s.mem := by
  simp [State.evaluate]
@[simp] theorem State.evaluate_accLen (a : Nat) : (s.evaluate a).accLen = s.accLen := by
  simp [State.evaluate]
@[simp] theorem State.evaluate_fields (a : Nat) : (s.evaluate a).fields = s.fields := by
  simp [State.evaluate]
@[simp] theorem State.evaluate_fifo (a : Nat) : (s.evaluate a).fifo = s.fifo := by
  simp [State.evaluate]
@[simp] theorem State.evaluate_userParam (a : Nat) : (s.evaluate a).userParam = s.userParam := by
  simp [State.evaluate]
@[simp] theorem State.evaluate_sbSel (a : Nat) : (s.evaluate a).sbSel = s.sbSel := by
  simp [State.evaluate]
@[simp] theorem State.evaluate_env (a : Nat) : (s.evaluate a).env = s.env := by
  simp [State.evaluate]

/-! ### The parameters and the buffer's readings after the components -/

@[simp] theorem State.params_corr (a : Nat) : (s.corr a).params = s.params := by simp [State.params]
@[simp] theorem State.ls_corr (a : Nat) : (s.corr a).ls = s.ls := by simp [State.ls]
@[simp] theorem State.params_slice : s.slice.params = s.params := by simp [State.params]
@[simp] theorem State.ls_slice : s.slice.ls = s.ls := by simp [State.ls]
@[simp] theorem State.params_pmatch : s.pmatch.params = s.params := by simp [State.params]
@[simp] theorem State.ls_pmatch : s.pmatch.ls = s.ls := by simp [State.ls]
@[simp] theorem State.params_decodeFrame : s.decodeFrame.params = s.params := by simp [State.params]
@[simp] theorem State.ls_decodeFrame : s.decodeFrame.ls = s.ls := by simp [State.ls]
@[simp] theorem State.params_evaluate (a : Nat) : (s.evaluate a).params = s.params := by simp [State.params]
@[simp] theorem State.ls_evaluate (a : Nat) : (s.evaluate a).ls = s.ls := by simp [State.ls]
@[simp] theorem State.params_emitThen (hold done : Phase) : (s.emitThen hold done).params = s.params := by simp [State.params]
@[simp] theorem State.ls_emitThen (hold done : Phase) : (s.emitThen hold done).ls = s.ls := by simp [State.ls]

/-- Soft bits depend on the buffer and the parameters only (R124). -/
theorem State.softBits_congr {s t : State} (hm : t.mem = s.mem) (hb : t.build = s.build) (a : Nat) :
    t.softBits a = s.softBits a := by
  have hr : t.raw = s.raw := by funext x; simp only [State.raw, hm]
  have hp : t.power = s.power := by funext k; simp only [State.power, State.sample, State.params, hr, hb]
  simp only [State.softBits, State.powers, State.params, hp, hb]

/-! ### The moves of the scan and the end of a PUSH -/

/-- The outer loop's two moves (R155, R210). -/
theorem State.scanOuterMove_cases (u : Nat) :
    (u + (s.params.subLen - s.params.jump) ≤ s.ls ∧
      s.scanOuterMove u = s.setPhase (.scanInner u (min s.params.subLen (s.ls - u)) 0)) ∨
    (s.ls < u + (s.params.subLen - s.params.jump) ∧ s.scanOuterMove u = (s.setBuffer [] 0).setPhase .accum) := by
  unfold State.scanOuterMove
  split
  · exact .inl ⟨by assumption, rfl⟩
  · exact .inr ⟨by omega, rfl⟩

/-- The inner loop's three moves (R155, R158, R159, R160). -/
theorem State.scanInnerMove_cases (u lsub o : Nat) :
    (o + s.params.win ≤ lsub ∧ (s.evaluate (u + o)).flags.matched = true ∧
      s.scanInnerMove u lsub o = (s.evaluate (u + o)).decodeFrame.setPhase (.scanEmit u lsub o)) ∨
    (o + s.params.win ≤ lsub ∧ (s.evaluate (u + o)).flags.matched = false ∧
      s.scanInnerMove u lsub o = (s.evaluate (u + o)).setPhase (.scanInner u lsub (o + s.params.jump))) ∨
    (lsub < o + s.params.win ∧ s.scanInnerMove u lsub o = s.setPhase (.scanOuter (u + s.params.oStride))) := by
  unfold State.scanInnerMove
  split
  · cases hm : (s.evaluate (u + o)).flags.matched
    · exact .inr (.inl ⟨by assumption, rfl, by simp only [hm]⟩)
    · exact .inl ⟨by assumption, rfl, by simp only [hm]⟩
  · exact .inr (.inr ⟨by omega, rfl⟩)

/-- The end of a PUSH: READY after the append or not (R100, R101). -/
theorem State.finishPush_cases (b : Block) :
    (s.params.thresh < s.accLen + s.params.blockSize ∧ s.finishPush b = (s.bufAppend b).setPhase (.scanOuter 0)) ∨
    (s.accLen + s.params.blockSize ≤ s.params.thresh ∧ s.finishPush b = (s.bufAppend b).setPhase .accum) := by
  by_cases h : s.params.thresh < s.accLen + s.params.blockSize
  · have hr : (s.bufAppend b).ready = true := decide_eq_true h
    exact .inl ⟨h, by simp only [State.finishPush, hr]; rfl⟩
  · have hr : (s.bufAppend b).ready = false := decide_eq_false h
    exact .inr ⟨by omega, by simp only [State.finishPush, hr]; rfl⟩

/-! ### mode after the components -/

@[simp] theorem State.mode_corr (a : Nat) : (s.corr a).mode = s.mode := by simp [State.mode]
@[simp] theorem State.mode_slice : s.slice.mode = s.mode := rfl
@[simp] theorem State.mode_pmatch : s.pmatch.mode = s.mode := rfl
@[simp] theorem State.mode_decodeFrame : s.decodeFrame.mode = s.mode := by simp [State.mode]
@[simp] theorem State.mode_evaluate (a : Nat) : (s.evaluate a).mode = s.mode := by simp [State.mode]

/-- DECODE leaves MATCH as it is (R184). -/
@[simp] theorem State.decodeFrame_matched : s.decodeFrame.flags.matched = s.flags.matched := by
  rcases s.decodeFrame_cases with ⟨-, h⟩ | ⟨-, -, h⟩ | ⟨-, -, h⟩ <;> rw [h] <;> rfl

@[simp] theorem State.evaluate_sb_corr (a : Nat) : (s.evaluate a).sb = (s.corr a).sb := rfl
@[simp] theorem State.evaluate_candOffset_corr (a : Nat) : (s.evaluate a).candOffset = (s.corr a).candOffset := rfl
@[simp] theorem State.evaluate_errors_corr (a : Nat) : (s.evaluate a).errors = (s.corr a).errors := rfl

/-- An evaluation of a window that fits writes its start to CAND_OFFSET and the signs of its soft bits to BV (R158). -/
theorem State.evaluate_candOffset {a : Nat} (h : a + s.params.win ≤ s.ls) :
    (s.evaluate a).candOffset = BitVec.ofNat 28 a := by
  rw [State.evaluate, State.corr, if_neg (by omega)]; rfl
theorem State.evaluate_BV {a : Nat} (h : a + s.params.win ≤ s.ls) {n : Nat} (hn : n < 96) :
    (s.evaluate a).BV n = decide (0 < (s.softBits a).toList.getD n 0) := by
  rw [State.evaluate, State.corr, if_neg (by omega)]
  exact tabulate_getD 96 _ _ hn
theorem State.evaluate_sb {a : Nat} (h : a + s.params.win ≤ s.ls) : (s.evaluate a).sb = s.softBits a := by
  rw [State.evaluate, State.corr, if_neg (by omega)]; rfl
theorem State.evaluate_errors {a : Nat} (h : a + s.params.win ≤ s.ls) : (s.evaluate a).errors = s.errors := by
  rw [State.evaluate, State.corr, if_neg (by omega)]; rfl

/-! ### The components do not read the phase -/

theorem State.corr_setPhase (x : Phase) (a : Nat) : (s.setPhase x).corr a = (s.corr a).setPhase x := by
  unfold State.corr; rw [State.ls_setPhase, State.params_setPhase]; split <;> rfl
theorem State.decodeFrame_setPhase (x : Phase) : (s.setPhase x).decodeFrame = s.decodeFrame.setPhase x := by
  unfold State.decodeFrame State.decodeWith State.consult
  rw [State.verdict_setPhase, State.params_setPhase, State.setPhase_flags]
  cases s.flags.matched <;> cases s.verdict <;> cases s.params.verifyMode <;> rfl
theorem State.evaluate_setPhase (x : Phase) (a : Nat) : (s.setPhase x).evaluate a = (s.evaluate a).setPhase x := by
  unfold State.evaluate; rw [State.corr_setPhase]; rfl

end Sys2Proof.Machine
end

