-- ==== Sys2Proof/Laws/Memory.lean ====
section
/-! SUPPORT. The buffer: reads after a store, and the canonical form every operation keeps. -/

namespace Sys2Proof.Machine

/-- A cell of consecutive bytes lies in their range. -/
theorem mem_cellsFrom {c : Host.Cell} {a : Nat} {bytes : List Byte} (h : c ∈ cellsFrom a bytes) :
    a ≤ c.1 ∧ c.1 < a + bytes.length := by
  induction bytes generalizing a with
  | nil => simp [cellsFrom] at h
  | cons b bs ih =>
    rcases List.mem_cons.mp h with rfl | h
    · simp
    · have := ih h
      simp only [List.length_cons]
      omega

/-- The addresses of consecutive bytes. -/
theorem map_fst_cellsFrom (a : Nat) (bytes : List Byte) :
    (cellsFrom a bytes).map Prod.fst = List.range' a bytes.length := by
  induction bytes generalizing a with
  | nil => rfl
  | cons b bs ih => simp [cellsFrom, List.range'_succ, ih]

/-- Consecutive bytes are in canonical form. -/
theorem cellsFrom_wf (a : Nat) (bytes : List Byte) : Memory.wf (cellsFrom a bytes) := by
  induction bytes generalizing a with
  | nil => exact List.Pairwise.nil
  | cons b bs ih => exact List.Pairwise.cons (fun c h => by have := mem_cellsFrom h; simp only; omega) (ih _)

/-- The empty buffer is in canonical form. -/
theorem Memory.nil_wf : Memory.wf [] := List.Pairwise.nil

/-- A store keeps the canonical form. -/
theorem Memory.store_wf {m : Memory} (h : m.wf) (base : Nat) (bytes : List Byte) : (m.store base bytes).wf := by
  refine List.pairwise_append.mpr ⟨List.pairwise_append.mpr ⟨h.filter _, cellsFrom_wf _ _, ?_⟩, h.filter _, ?_⟩
  · intro c hc d hd
    have := mem_cellsFrom hd
    have : c.1 < base := by simpa using (List.mem_filter.mp hc).2
    omega
  · intro c hc d hd
    have hd' : base + bytes.length ≤ d.1 := by simpa using (List.mem_filter.mp hd).2
    rcases List.mem_append.mp hc with hc | hc
    · have : c.1 < base := by simpa using (List.mem_filter.mp hc).2
      omega
    · have := mem_cellsFrom hc
      omega

/-- Reading an appended list: the first part decides where it holds something. -/
theorem Memory.read_append (m n : Memory) (a : Nat) :
    Memory.read (m ++ n) a = (Memory.read m a).or (Memory.read n a) := by
  induction m with
  | nil => simp [Memory.read]
  | cons c cs ih =>
    simp only [List.cons_append, Memory.read]
    split <;> simp [*]

/-- An address no cell has holds nothing. -/
theorem Memory.read_none {m : Memory} {a : Nat} (h : ∀ c ∈ m, c.1 ≠ a) : Memory.read m a = none := by
  induction m with
  | nil => rfl
  | cons c cs ih =>
    simp only [Memory.read, if_neg (h c (List.mem_cons_self ..))]
    exact ih fun d hd => h d (List.mem_cons_of_mem _ hd)

/-- A filter that keeps the address's cells does not change the read. -/
theorem Memory.read_filter {m : Memory} {p : Host.Cell → Bool} {a : Nat} (h : ∀ c ∈ m, c.1 = a → p c = true) :
    Memory.read (m.filter p) a = Memory.read m a := by
  induction m with
  | nil => rfl
  | cons c cs ih =>
    have ih := ih fun d hd => h d (List.mem_cons_of_mem _ hd)
    by_cases hp : p c = true
    · simp [hp, Memory.read, ih]
    · have hc : c.1 ≠ a := fun e => hp (h c (List.mem_cons_self ..) e)
      simp [hp, Memory.read, ih, hc]

/-- Reading among consecutive bytes. -/
theorem Memory.read_cellsFrom (base : Nat) (bytes : List Byte) (a : Nat) :
    Memory.read (cellsFrom base bytes) a = if a < base then none else bytes[a - base]? := by
  induction bytes generalizing base with
  | nil => simp [cellsFrom, Memory.read]
  | cons b bs ih =>
    simp only [cellsFrom, Memory.read, ih]
    by_cases h1 : base = a
    · simp [h1]
    · by_cases h2 : a < base
      · simp [h1, h2, Nat.lt_succ_of_lt h2]
      · obtain ⟨k, rfl⟩ : ∃ k, a = base + 1 + k := ⟨a - base - 1, by omega⟩
        have e1 : base + 1 + k - (base + 1) = k := by omega
        have e2 : base + 1 + k - base = k + 1 := by omega
        have e3 : ¬ base + 1 + k < base + 1 := by omega
        rw [if_neg h1, if_neg h2, if_neg e3, e1, e2]
        rfl

/-- Outside the stored bytes a store changes nothing; inside it is the stored byte. -/
theorem Memory.read_store (m : Memory) (base : Nat) (bytes : List Byte) (a : Nat) :
    Memory.read (m.store base bytes) a =
      if base ≤ a ∧ a < base + bytes.length then bytes[a - base]? else Memory.read m a := by
  simp only [Memory.store, Memory.read_append, Memory.read_cellsFrom]
  by_cases h1 : a < base
  · rw [Memory.read_filter (a := a) (by rintro c - rfl; simpa using h1)]
    rw [Memory.read_none (m := m.filter fun c => decide (base + bytes.length ≤ c.1)) (a := a)
      (by intro c hc e; have := (List.mem_filter.mp hc).2; simp at this; omega)]
    simp [h1, Nat.not_le.mpr h1]
  · rw [Memory.read_none (m := m.filter fun c => decide (c.1 < base)) (a := a)
      (by intro c hc e; have := (List.mem_filter.mp hc).2; simp at this; omega)]
    by_cases h2 : a < base + bytes.length
    · have h3 : a - base < bytes.length := by omega
      simp [h1, h2, h3, Nat.not_lt.mp h1]
    · rw [Memory.read_filter (a := a) (by rintro c - rfl; simp; omega)]
      have h3 : bytes.length ≤ a - base := by omega
      simp [h1, h2, List.getElem?_eq_none h3]

/-- A dense buffer's addresses strictly rise. -/
theorem Memory.wf_of_dense {m : Memory} {n : Nat} (h : m.map Prod.fst = List.range n) : m.wf := by
  have : (m.map Prod.fst).Pairwise (· < ·) := h ▸ List.pairwise_lt_range
  exact List.pairwise_map.mp this

/-- Appending at the end of a dense buffer leaves it dense. -/
theorem Memory.dense_store {m : Memory} {n : Nat} (h : m.map Prod.fst = List.range n) (bytes : List Byte) :
    (m.store n bytes).map Prod.fst = List.range (n + bytes.length) := by
  have hlt : ∀ c ∈ m, c.1 < n := fun c hc => List.mem_range.mp (h ▸ List.mem_map_of_mem hc)
  have h1 : m.filter (fun c => decide (c.1 < n)) = m :=
    List.filter_eq_self.mpr fun c hc => by simpa using hlt c hc
  have h2 : m.filter (fun c => decide (n + bytes.length ≤ c.1)) = [] :=
    List.filter_eq_nil_iff.mpr fun c hc => by have := hlt c hc; simp; omega
  simp only [Memory.store, h1, h2, List.append_nil, List.map_append, map_fst_cellsFrom, h]
  rw [List.range_eq_range', List.range_eq_range']
  simpa using List.range'_append_1 (s := 0) (m := n) (n := bytes.length)

/-- BufAppend keeps the canonical form, and BufClear has it. -/
theorem State.bufAppend_wf {s : State} (h : s.mem.wf) (b : Block) : (s.bufAppend b).mem.wf := Memory.store_wf h _ _
theorem State.bufClear_wf (s : State) : s.bufClear.mem.wf := Memory.nil_wf

/-- The buffer after reset is in canonical form. -/
theorem State.reset_wf : State.reset.mem.wf := Memory.nil_wf

end Sys2Proof.Machine
end

