-- ==== Sys2Proof/Laws/PerInstr.lean ====
section
/-! SUPPORT. The per-instruction family EncodedFields: OP and ARG of each command's word. -/

namespace Sys2Proof.Laws

/-- The word of a command has the command's opcode in OP and its operand in ARG (R80, R83), whatever else it is. -/
def EncodedFields.Statement (i : Instr) : Prop :=
  opField (encode i) = i.opcode ∧ argField (encode i) = i.arg % 2 ^ 28

theorem EncodedFields.nop : EncodedFields.Statement .nop := ⟨opField_encode _, argField_encode _⟩
theorem EncodedFields.corr (a : Nat) : EncodedFields.Statement (.corr a) := ⟨opField_encode _, argField_encode _⟩
theorem EncodedFields.slice : EncodedFields.Statement .slice := ⟨opField_encode _, argField_encode _⟩
theorem EncodedFields.pmatch : EncodedFields.Statement .pmatch := ⟨opField_encode _, argField_encode _⟩
theorem EncodedFields.decode : EncodedFields.Statement .decode := ⟨opField_encode _, argField_encode _⟩
theorem EncodedFields.emit : EncodedFields.Statement .emit := ⟨opField_encode _, argField_encode _⟩
theorem EncodedFields.proc : EncodedFields.Statement .proc := ⟨opField_encode _, argField_encode _⟩
theorem EncodedFields.clear : EncodedFields.Statement .clear := ⟨opField_encode _, argField_encode _⟩
theorem EncodedFields.sreset : EncodedFields.Statement .sreset := ⟨opField_encode _, argField_encode _⟩

end Sys2Proof.Laws
end

