-- ==== Sys2Proof/Laws/Step.lean ====
section
/-! SUPPORT. Everything a step can do: one inversion lemma for commands, engine moves, host transactions and steps. -/

namespace Sys2Proof.Machine

/-- One atomic change of ERTCORE's own state, up to the host's side of the ports. Every step is a change of the host's side
followed by one of these (`step_did`). -/
inductive Did (s : State) : State → Prop where
  | nothing : Did s s
  | raised (e : ErrorFlag) (h : e = .illegalCmd ∨ e = .stateErr) : Did s (s.raise e)
  | acked (v : Word) : Did s (s.ackErrors v)
  | wroteParam (v : Word) : Did s (s.setUserParam v)
  | wroteSel (v : BitVec 7) : Did s (s.setSbSel v)
  | reset : Did s s.softReset
  | took (r : Record) (rest : List Record) (h : s.fifo = r :: rest) : Did s ((s.setFifo rest).recTo r.words)
  | accepted (h : s.phase = .accum) (i : Instr) : Did s (s.setPhase (.busy i))
  | correlated (h : s.phase = .accum ∨ ∃ i, s.phase = .busy i) (a : Nat) : Did s ((s.setPhase .accum).corr a)
  | sliced (h : s.phase = .accum ∨ ∃ i, s.phase = .busy i) : Did s (s.setPhase .accum).slice
  | compared (h : s.phase = .accum ∨ ∃ i, s.phase = .busy i) : Did s (s.setPhase .accum).pmatch
  | decoded (h : s.phase = .accum ∨ ∃ i, s.phase = .busy i) : Did s (s.setPhase .accum).decodeFrame
  | emitted (h : s.phase = .accum ∨ s.phase = .emitHold ∨ ∃ i, s.phase = .busy i) : Did s (s.emitThen .emitHold .accum)
  | started (h : s.phase = .accum ∨ ∃ i, s.phase = .busy i) : Did s s.startProcess
  | cleared (h : s.phase = .accum ∨ ∃ i, s.phase = .busy i) : Did s (s.setPhase .accum).bufClear
  | finished (h : ∃ i, s.phase = .busy i) : Did s (s.setPhase .accum)
  | tookBlock (h : s.phase = .accum) (b : Block) : Did s (s.acceptBlock b)
  | passed (b : Block) (h : s.phase = .passHold b) : Did s (s.passOut b)
  | pushed (b : Block) (h : s.phase = .passTaken b) : Did s (s.finishPush b)
  | outer (u : Nat) (h : s.phase = .scanOuter u) : Did s (s.scanOuterMove u)
  | inner (u lsub o : Nat) (h : s.phase = .scanInner u lsub o) : Did s (s.scanInnerMove u lsub o)
  | sent (u lsub o : Nat) (h : s.phase = .scanEmit u lsub o) : Did s (s.scanEmitMove u lsub o)

/-- What the host's plan, its offers and the bus's answers leave alone: what came through the PASS, REC and VER ports. -/
structure SamePorts (x y : Env) : Prop where
  passGot : x.passGot = y.passGot
  recGot : x.recGot = y.recGot
  verCalls : x.verCalls = y.verCalls

/-- What a command does in MODE = ACCUM. -/
def effect : Instr → State → State
  | .nop, s => s
  | .corr a, s => s.corr a
  | .slice, s => s.slice
  | .pmatch, s => s.pmatch
  | .decode, s => s.decodeFrame
  | .emit, s => s.emitThen .emitHold .accum
  | .proc, s => s.startProcess
  | .clear, s => s.bufClear
  | .sreset, s => s.softReset

/-- Every command answers a next state. -/
theorem exec_next (i : Instr) (s : State) :
    (i = .sreset ∧ exec i s = .next s.softReset) ∨
    (i ≠ .sreset ∧ s.phase = .accum ∧ exec i s = .next (effect i s)) ∨
    (i ≠ .sreset ∧ s.mode ≠ .accum ∧ exec i s = .next (s.raise .stateErr)) := by
  by_cases hi : i = .sreset
  · exact .inl ⟨hi, by subst hi; rfl⟩
  · right
    have key : exec i s = .next (s.command (effect i)) := by
      cases i <;> first | rfl | exact absurd rfl hi
    rcases s.command_cases (effect i) with ⟨h, e⟩ | ⟨h, e⟩
    · exact .inl ⟨hi, h, by rw [key, e]⟩
    · exact .inr ⟨hi, h, by rw [key, e]⟩

/-- A command's effect from ACCUM or from its wait is one of the changes. -/
theorem effect_did (i : Instr) {s : State} (h : s.phase = .accum ∨ ∃ j, s.phase = .busy j) :
    Did s (effect i (s.setPhase .accum)) := by
  have same : s.phase = .accum → s.setPhase .accum = s := fun e => by rw [← e]; exact s.setPhase_same
  cases i with
  | nop =>
    rcases h with h | h
    · rw [same h]; exact .nothing
    · exact .finished h
  | corr a => exact .correlated h a
  | slice => exact .sliced h
  | pmatch => exact .compared h
  | decode => exact .decoded h
  | emit =>
    have : (s.setPhase .accum).emitThen .emitHold .accum = s.emitThen .emitHold .accum := by
      simp only [State.emitThen, State.hasRoom]; rfl
    rw [show effect .emit (s.setPhase .accum) = s.emitThen .emitHold .accum from this]
    exact .emitted (h.elim .inl fun h => .inr (.inr h))
  | proc => exact .started h
  | clear => exact .cleared h
  | sreset => exact .reset

/-- A command, at once. -/
theorem exec_did {i : Instr} {s t : State} (h : exec i s = .next t) : Did s t := by
  rcases exec_next i s with ⟨-, e⟩ | ⟨-, hp, e⟩ | ⟨-, -, e⟩ <;> rw [h] at e <;> injection e with e <;> subst e
  · exact .reset
  · have : s.setPhase .accum = s := by rw [← hp]; exact s.setPhase_same
    have hd := effect_did i (s := s) (.inl hp)
    rwa [this] at hd
  · exact .raised _ (.inr rfl)

/-- An engine move. -/
theorem engineMove_did {s t : State} (h : s.engineMove = .next t) : ∃ x, Did (s.setEnv x) t ∧ SamePorts x s.env := by
  have same : SamePorts s.env s.env := ⟨rfl, rfl, rfl⟩
  unfold State.engineMove at h
  split at h <;> rename_i hp
  · split at h <;> injection h with h <;> subst h
    · exact ⟨s.env, .nothing, same⟩
    · rename_i b rest _
      exact ⟨_, .tookBlock (s := s.setOffers rest) hp b, ⟨rfl, rfl, rfl⟩⟩
  · injection h with h; subst h; exact ⟨s.env, .nothing, same⟩
  · rename_i i
    refine ⟨s.env, ?_, same⟩
    rcases exec_next i (s.setPhase .accum) with ⟨-, e⟩ | ⟨-, -, e⟩ | ⟨-, hm, -⟩
    · rw [h] at e; injection e with e; subst e; exact .reset
    · rw [h] at e; injection e with e; subst e; exact effect_did i (.inr ⟨_, hp⟩)
    · simp [State.mode, Phase.mode] at hm
  · injection h with h; subst h; exact ⟨s.env, .nothing, same⟩
  · injection h with h; subst h; exact ⟨s.env, .pushed _ hp, same⟩
  · injection h with h; subst h; exact ⟨s.env, .emitted (.inr (.inl hp)), same⟩
  · injection h with h; subst h; exact ⟨s.env, .outer _ hp, same⟩
  · injection h with h; subst h; exact ⟨s.env, .inner _ _ _ hp, same⟩
  · injection h with h; subst h; exact ⟨s.env, .sent _ _ _ hp, same⟩

/-- An aligned CSR write. -/
theorem csrWrite_did {s t : State} {offset : Nat} {v : Word} (h : s.csrWrite offset v = .next t) : Did s t := by
  unfold State.csrWrite at h
  split at h
  · injection h with h; subst h; exact .acked v
  · unfold State.writeCommand at h
    split at h
    · injection h with h; subst h; exact .raised _ (.inl rfl)
    · exact exec_did h
  · injection h with h; subst h; exact .wroteParam v
  · injection h with h; subst h; exact .wroteSel _
  · injection h with h; subst h; exact .nothing

/-- A CSR access. -/
theorem csrAccess_did {s t : State} {offset : Nat} {acc : Access} (h : s.csrAccess offset acc = .next t) :
    ∃ x, Did (s.setEnv x) t ∧ SamePorts x s.env := by
  unfold State.csrAccess at h
  split at h
  · cases h
  · split at h <;> split at h
    · injection h with h
      subst h
      unfold State.csrRead
      split
      · exact ⟨_, .nothing, ⟨rfl, rfl, rfl⟩⟩
      · exact ⟨_, .nothing, ⟨rfl, rfl, rfl⟩⟩
      · exact ⟨_, .nothing, ⟨rfl, rfl, rfl⟩⟩
    · injection h with h; subst h; exact ⟨_, .nothing, ⟨rfl, rfl, rfl⟩⟩
    · exact ⟨_, csrWrite_did h, ⟨rfl, rfl, rfl⟩⟩
    · injection h with h; subst h; exact ⟨_, .nothing, ⟨rfl, rfl, rfl⟩⟩

/-- A command that takes time. -/
theorem slowCommand_did {s t : State} {w : Word} (h : s.slowCommand w = .next t) : Did s t := by
  unfold State.slowCommand at h
  split at h
  · injection h with h; subst h; exact .raised _ (.inl rfl)
  · rename_i i _
    unfold State.acceptCommand at h
    split at h
    · exact exec_did h
    · injection h with h
      rcases s.command_cases fun t => t.setPhase (.busy i) with ⟨hp, e⟩ | ⟨-, e⟩ <;> rw [e] at h <;> subst h
      · exact .accepted hp i
      · exact .raised _ (.inr rfl)

/-- What a step can do: a change of the host's side, then one of the atomic changes. -/
theorem step_did {s t : State} (h : step s = .next t) : ∃ x, Did (s.setEnv x) t ∧ SamePorts x s.env := by
  unfold step at h
  split at h
  · exact engineMove_did h
  · rename_i e rest _
    have popped {u : State} (x : Env) : ∀ (hx : Did ((s.setAgenda rest).setEnv x) u ∧ SamePorts x (s.setAgenda rest).env),
        ∃ x, Did (s.setEnv x) u ∧ SamePorts x s.env := fun hx =>
      ⟨x, hx.1, ⟨hx.2.passGot, hx.2.recGot, hx.2.verCalls⟩⟩
    unfold State.turn at h
    split at h
    · obtain ⟨x, hx⟩ := engineMove_did h; exact popped x hx
    · injection h with h; subst h; exact ⟨_, .nothing, ⟨rfl, rfl, rfl⟩⟩
    · injection h with h; subst h; exact ⟨_, .nothing, ⟨rfl, rfl, rfl⟩⟩
    · split at h
      · rename_i b hb
        injection h with h
        subst h
        exact ⟨_, .passed (s := s.setAgenda rest) b hb, ⟨rfl, rfl, rfl⟩⟩
      · exact engineMove_did h
    · split at h
      · rename_i r rest' hf
        injection h with h
        subst h
        exact ⟨_, .took (s := s.setAgenda rest) r rest' hf, ⟨rfl, rfl, rfl⟩⟩
      · exact engineMove_did h
    · split at h
      · exact engineMove_did h
      · injection h with h; subst h; exact ⟨_, .nothing, ⟨rfl, rfl, rfl⟩⟩
    · obtain ⟨x, hx⟩ := csrAccess_did h; exact popped x hx
    · exact ⟨_, slowCommand_did h, ⟨rfl, rfl, rfl⟩⟩
    · split at h
      · cases h
      · obtain ⟨x, hx⟩ := csrAccess_did h; exact popped x hx
    · injection h with h; subst h; exact ⟨_, .reset, ⟨rfl, rfl, rfl⟩⟩

/-- No step is refused: every command has its meaning. -/
theorem step_never_refused (s : State) (r : Refusal) : step s ≠ .refused r := by
  have hexec : ∀ i (s : State), exec i s ≠ .refused r := fun i s e => by
    rcases exec_next i s with ⟨-, h⟩ | ⟨-, -, h⟩ | ⟨-, -, h⟩ <;> rw [e] at h <;> cases h
  have hmove : ∀ s : State, s.engineMove ≠ .refused r := fun s e => by
    unfold State.engineMove at e
    split at e <;> first | cases e | (split at e <;> cases e) | exact hexec _ _ e
  have hacc : ∀ (s : State) x a, s.csrAccess x a ≠ .refused r := fun s x a e => by
    unfold State.csrAccess State.csrWrite State.writeCommand at e
    repeat' split at e
    all_goals first | cases e | exact hexec _ _ e
  intro e
  unfold step at e
  split at e
  · exact hmove _ e
  · unfold State.turn State.slowCommand State.acceptCommand at e
    repeat' split at e
    all_goals first | cases e | exact hmove _ e | exact hacc _ _ _ e

/-! ### A step with its event -/

/-- What a step is, with the event it takes: `step_did` says how the state changes, this says what made it change. -/
inductive Turn (s : State) : State → Prop where
  | engine {t : State} (l : List Event) (h : s.engineTurn) (ht : (s.setAgenda l).engineMove = .next t) : Turn s t
  | command {t : State} (w : Word) (i : Instr) (rest : List Event) (h : s.accesses 0x08 (.write 4 w) rest)
      (hd : decodeWord w = .command i) (ht : exec i ((s.setAgenda rest).answer .written) = .next t) : Turn s t
  | slow (w : Word) (i : Instr) (rest : List Event) (h : s.env.agenda = .slowCmd w :: rest)
      (hd : decodeWord w = .command i) (hi : i ≠ .sreset) (hp : s.phase = .accum) :
      Turn s (((s.setAgenda rest).answer .written).setPhase (.busy i))
  | refusedCommand (w : Word) (e : ErrorFlag) (rest : List Event) (h : s.writesCmd w rest)
      (he : e = .illegalCmd ∨ e = .stateErr) : Turn s (((s.setAgenda rest).answer .written).raise e)
  | reset (x : Env) (h : s.resets) : Turn s (s.setEnv x).softReset
  | status (v : Word) (rest : List Event) (h : s.accesses 0x04 (.write 4 v) rest) :
      Turn s (((s.setAgenda rest).answer .written).ackErrors v)
  | param (v : Word) (rest : List Event) (h : s.accesses 0x10 (.write 4 v) rest) :
      Turn s (((s.setAgenda rest).answer .written).setUserParam v)
  | sel (v : Word) (rest : List Event) (h : s.accesses 0x20 (.write 4 v) rest) :
      Turn s (((s.setAgenda rest).answer .written).setSbSel (v.truncate 7))
  | tookRecord (r : Record) (rs : List Record) (rest : List Event) (h : s.env.agenda = .takeRec :: rest)
      (hf : s.fifo = r :: rs) : Turn s (((s.setAgenda rest).setFifo rs).recTo r.words)
  | tookBlock (b : Block) (rest : List Event) (h : s.env.agenda = .takePass :: rest) (hp : s.phase = .passHold b) :
      Turn s ((s.setAgenda rest).passOut b)
  | offered (b : Block) (rest : List Event) (h : s.env.agenda = .offer b :: rest) :
      Turn s ((s.setAgenda rest).setOffers (s.env.offers ++ [b]))
  | withdrew (rest : List Event) (h : s.env.agenda = .withdraw :: rest) : Turn s ((s.setAgenda rest).setOffers [])
  | host (x : Env) (ho : x.offers = s.env.offers) (hx : SamePorts x s.env) : Turn s (s.setEnv x)

/-- The engine's turn with nothing popped. -/
theorem State.setAgenda_same (s : State) : s.setAgenda s.env.agenda = s := rfl

/-- A CSR access, with its event. -/
theorem csrAccess_turn {s t : State} {x : Nat} {acc : Access} {rest : List Event} (h : s.accesses x acc rest)
    (ht : (s.setAgenda rest).csrAccess x acc = .next t) : Turn s t := by
  unfold State.csrAccess at ht
  split at ht
  · cases ht
  · split at ht <;> split at ht
    · injection ht with ht
      subst ht
      unfold State.csrRead
      split <;> exact .host _ rfl ⟨rfl, rfl, rfl⟩
    · injection ht with ht; subst ht; exact .host _ rfl ⟨rfl, rfl, rfl⟩
    · rename_i bytes v ha
      have hb : bytes = 4 := (of_decide_eq_true ha).1
      subst hb
      unfold State.csrWrite at ht
      split at ht <;> rename_i hc
      · have := offset_of_csrAt hc; subst this
        injection ht with ht; subst ht; exact .status v rest h
      · have := offset_of_csrAt hc; subst this
        unfold State.writeCommand at ht
        split at ht
        · injection ht with ht; subst ht; exact .refusedCommand v _ rest (.inl h) (.inl rfl)
        · rename_i i hd; exact .command v i rest h hd ht
      · have := offset_of_csrAt hc; subst this
        injection ht with ht; subst ht; exact .param v rest h
      · have := offset_of_csrAt hc; subst this
        injection ht with ht; subst ht; exact .sel v rest h
      · injection ht with ht; subst ht; exact .host _ rfl ⟨rfl, rfl, rfl⟩
    · injection ht with ht; subst ht; exact .host _ rfl ⟨rfl, rfl, rfl⟩

/-- What a step is, with its event. -/
theorem step_turn {s t : State} (h : step s = .next t) : Turn s t := by
  unfold step at h
  split at h <;> rename_i ha
  · exact .engine s.env.agenda (by simp only [State.engineTurn, ha]) h
  · rename_i rest
    unfold State.turn at h
    split at h
    · exact .engine rest (by simp only [State.engineTurn, ha]) h
    · injection h with h; subst h; exact .offered _ rest ha
    · injection h with h; subst h; exact .withdrew rest ha
    · split at h <;> rename_i hp
      · injection h with h; subst h; exact .tookBlock _ rest ha hp
      · exact .engine s.env.agenda (by simp only [State.engineTurn, ha]; exact hp) h
    · split at h <;> rename_i hf
      · injection h with h; subst h; exact .tookRecord _ _ rest ha hf
      · exact .engine s.env.agenda (by simp only [State.engineTurn, ha]; exact hf) h
    · split at h <;> rename_i hm
      · exact .engine s.env.agenda (by simp only [State.engineTurn, ha]; exact hm) h
      · injection h with h; subst h; exact .host _ rfl ⟨rfl, rfl, rfl⟩
    · exact csrAccess_turn (.inl ha) h
    · rename_i w
      unfold State.slowCommand at h
      split at h <;> rename_i hd
      · injection h with h; subst h; exact .refusedCommand w _ rest (.inr ha) (.inl rfl)
      · rename_i i
        unfold State.acceptCommand at h
        split at h
        · injection h with h
          subst h
          exact .reset _ (.inr (.inl ⟨w, rest, .inr ha, hd⟩))
        · rename_i hi
          injection h with h
          rcases ((s.setAgenda rest).answer .written).command_cases fun t => t.setPhase (.busy i) with ⟨hp, e⟩ | ⟨-, e⟩ <;>
            rw [e] at h <;> subst h
          · exact .slow w i rest ha hd hi hp
          · exact .refusedCommand w _ rest (.inr ha) (.inr rfl)
    · rename_i addr acc
      split at h <;> rename_i hw
      · cases h
      · unfold windowOffset at hw
        split at hw <;> simp only [reduceCtorEq, Option.some.injEq] at hw
        subst hw
        rename_i hr
        refine csrAccess_turn (.inr ?_) h
        rw [Nat.add_sub_cancel' hr.1]
        exact ha
    · injection h with h; subst h; exact .reset _ (.inl ⟨rest, ha⟩)

end Sys2Proof.Machine
end

