-- ==== Sys2Proof/Tests/Slice0.lean ====
section
/-! SUPPORT. Tests on single steps and small states, their expected values taken from spec/95_test_vectors.md and the encodings of
spec/30_encoding.md, and a witness for every hypothesis of the obligations. -/

namespace Sys2Proof.Tests

set_option Elab.async false

open Sys2Proof Sys2Proof.Machine

/-! ### Test instance T (95_test_vectors.md, section 0) -/

/-- A bit pattern as a vector, first bit first. -/
def bitsOf (n w : Nat) : Vector Bool n := tabulate n fun i => Nat.testBit w (n - 1 - i)

/-- The parameters of T: PREAMBLE is 111110010101001100000, 0x1F2A60 as val(). -/
def paramsT : Params where
  blockSize := 400
  nacc := 2
  bias := 127
  p := 2
  jump := 1
  preamble := bitsOf 21 0x1F2A60
  verifyMode := .disabled
  altStart := .at56
  recDepth := 4
  userParamInit := 0
  csrBase := 0x40000000

def buildT : Build := ⟨paramsT, by decide⟩

/-- T with ALT_ID_LSB_START = 55 (vector DEC-ALT). -/
def buildAlt : Build := ⟨{ paramsT with altStart := .at55 }, by decide⟩

/-- T with a verifier. -/
def buildVer : Build := ⟨{ paramsT with verifyMode := .enabled }, by decide⟩

/-- T with REC_DEPTH = 1 (vectors EM3 to EM7). -/
def buildOne : Build := ⟨{ paramsT with recDepth := 1 }, by decide⟩

/-- P = 3 (vector V7), with a block long enough for its window. -/
def buildOdd : Build := ⟨{ paramsT with p := 3, blockSize := 600 }, by decide⟩

/-- T right after reset. -/
def resetT : State := State.resetWith buildT

/-- The state a next outcome gives, or the one it started from. -/
def after (o : Host.Outcome State Fault Refusal) (s : State) : State :=
  match o with
  | .next t => t
  | .fault _ => s
  | .refused _ => s

/-- Whether an outcome is a next state. -/
def isNext (o : Host.Outcome State Fault Refusal) : Bool :=
  match o with
  | .next _ => true
  | .fault _ => false
  | .refused _ => false

/-- The state after a command. -/
def run (i : Instr) (s : State) : State := after (exec i s) s

/-- A block of n samples `L` = (127, 127) but for the raw bytes listed (section 0, sample shorthand). -/
def blockL (n : Nat) (bytes : List (Nat × Byte)) : Block :=
  (List.range (2 * n)).map fun i => ((bytes.find? fun c => c.1 == i).map fun c => c.2).getD 127

/-- A build with one block in its buffer. -/
def filled (b : Build) (block : Block) : State := (State.resetWith b).bufAppend block

/-- T, one block all `L`: Ls = 200. -/
def oneBlock : State := filled buildT (blockL 200 [])

/-- BV as three words (R41). -/
def bvOf (w : Nat) : Vector Bool 96 := bitsOf 96 w

/-- T with BV the window bits of a fixture frame and MATCH = 1. -/
def withFrame (b : Build) (w : Nat) : State :=
  { State.resetWith b with
    bv := bvOf w
    flags := { matched := true, decOk := false, lowConf := false, vRej := false } }

def f1 : Nat := 0xF953001D0F3DDDBC614E0000
def f2 : Nat := 0xF95300C00000000000010000
def f3 : Nat := 0xF953067DFFFFFFFFFFFF0000

/-- A state with something for the host to do next. -/
def withEvents (s : State) (l : List Event) : State := s.setAgenda l

/-! ### WellFormed: what the checks refuse -/

theorem test_corr_operand_too_big : (Instr.corr 0x10000000).wellFormed = false := by decide
theorem test_corr_operand_largest : (Instr.corr 0xFFFFFFF).wellFormed = true := by decide
theorem test_short_block_refused : paramsT.wellFormedBlock (List.replicate 399 127) = false :=
  decide_eq_false (by rw [List.length_replicate]; decide)
theorem test_long_block_refused : paramsT.wellFormedBlock (List.replicate 401 127) = false :=
  decide_eq_false (by rw [List.length_replicate]; decide)
theorem test_build_odd_blocksize : (Build.ofParams? { paramsT with blockSize := 401 }).isSome = false := by decide
theorem test_build_small_blocksize : (Build.ofParams? { paramsT with blockSize := 2 }).isSome = false := by decide
theorem test_build_nacc_zero : (Build.ofParams? { paramsT with nacc := 0 }).isSome = false := by decide
theorem test_build_bias_256 : (Build.ofParams? { paramsT with bias := 256 }).isSome = false := by decide
theorem test_build_p_one : (Build.ofParams? { paramsT with p := 1 }).isSome = false := by decide
theorem test_build_p_too_big : (Build.ofParams? { paramsT with p := 32769 }).isSome = false := by decide
theorem test_build_jump_zero : (Build.ofParams? { paramsT with jump := 0 }).isSome = false := by decide
theorem test_build_jump_too_big : (Build.ofParams? { paramsT with jump := 399 }).isSome = false := by decide
theorem test_build_over_2_29_bytes : (Build.ofParams? { paramsT with nacc := 1342177 }).isSome = false := by decide
theorem test_build_no_fifo : (Build.ofParams? { paramsT with recDepth := 0 }).isSome = false := by decide
theorem test_build_T : (Build.ofParams? paramsT).isSome = true := by decide

/-! ### Decode: words written out from R83 -/

theorem test_decode_nop : decodeTableWord 32 0b00000000000000000000000000000000 = some .nop := by decide
theorem test_decode_corr : decodeTableWord 32 0b00010000000000000000000000000110 = some (.corr 6) := by decide
theorem test_decode_corr_top_bit : decodeTableWord 32 0b00011000000000000000000000000000 = some (.corr 0x8000000) := by decide
theorem test_decode_slice : decodeTableWord 32 0b00100000000000000000000000000000 = some .slice := by decide
theorem test_decode_pmatch : decodeTableWord 32 0b00110000000000000000000000000000 = some .pmatch := by decide
theorem test_decode_decode : decodeTableWord 32 0b01000000000000000000000000000000 = some .decode := by decide
theorem test_decode_emit : decodeTableWord 32 0b01010000000000000000000000000000 = some .emit := by decide
theorem test_decode_proc : decodeTableWord 32 0b01100000000000000000000000000000 = some .proc := by decide
theorem test_decode_clear : decodeTableWord 32 0b01110000000000000000000000000000 = some .clear := by decide
theorem test_decode_sreset : decodeTableWord 32 0b10000000000000000000000000000000 = some .sreset := by decide
theorem test_decode_reserved : decodeTableWord 32 0x90000000 = none := by decide
theorem test_decode_nonzero_arg : decodeTableWord 32 0x20000001 = none := by decide
theorem test_encode_corr : encode (.corr 3) = 0x10000003 := by decide
theorem test_encode_sreset : encode .sreset = 0x80000000 := by decide

/-! ### From State.reset: a word the host writes to CMD runs in the next step -/

theorem test_first_word_runs :
    (List.map (fun w => isNext (step (State.reset.withFetchWord 32 w)))
      [0x00000000, 0x10000003, 0x20000000, 0x30000000, 0x40000000, 0x50000000, 0x60000000, 0x70000000, 0x80000000]).all
      (fun b => b) = true := by decide

/-! ### One command each (95_test_vectors.md, sections 2.2 to 2.10) -/

/-- V1: SB[0] = 25 − 1, and V7: odd P and constant power 1. -/
theorem test_corr_soft_bits :
    (run (.corr 0) (filled buildT (blockL 200 [(2, 132), (4, 128)]))).SB 0 = 24 ∧
    (run (.corr 0) (filled buildT (blockL 200 [(2, 132), (4, 128)]))).SB 1 = 0 ∧
    (run (.corr 0) (filled buildOdd (blockL 300 [(2, 128), (4, 128), (6, 128)]))).SB 0 = -1 := by decide +kernel
/-- V8, V9 and V10: the last window that fits, the first that does not (STATUS 200), and an empty buffer. -/
theorem test_corr_range :
    (run (.corr 6) oneBlock).candOffset = 6 ∧ (run (.corr 6) oneBlock).statusWord = 0 ∧
    (run (.corr 7) oneBlock).candOffset = 0 ∧ (run (.corr 7) oneBlock).statusWord = 0x200 ∧
    (run (.corr 0) resetT).statusWord = 0x200 := by decide +kernel
/-- SL1: 25, 0, −7 slice to 1, 0, 0. -/
theorem test_slice_sl1 :
    let sb : Vector Int 96 := tabulate 96 fun n => if n = 0 then 25 else if n = 2 then -7 else 0
    let s := run .slice { resetT with sb := sb }
    s.wordAt 0x14 = 0x80000000 ∧ s.wordAt 0x18 = 0 ∧ s.wordAt 0x1C = 0 := by decide +kernel
/-- SL3: every SB[n] = 1. -/
theorem test_slice_sl3 : (run .slice { resetT with sb := tabulate 96 fun _ => 1 }).wordAt 0x1C = 0xFFFFFFFF := by decide +kernel
/-- PM1 (MATCH, STATUS 004) and PM3: BV[20] flipped. -/
theorem test_pmatch_pm1 : (run .pmatch { resetT with bv := bvOf f1 }).statusWord = 0x004 := by decide +kernel
theorem test_pmatch_pm3 : (run .pmatch { resetT with bv := bvOf 0xF953081D0F3DDDBC614E0000 }).statusWord = 0 := by
  decide +kernel
/-- DEC-1 with STATUS 01C, DEC-2 and DEC-3, and DEC-ALT: the literal bits of the source. -/
theorem test_decode_fields :
    (run .decode (withFrame buildT f1)).fields =
      { meterId := 12345678, meterType := 7, physTamper := 0, encTamper := 1, consumption := 998877, altId := 12345678 } ∧
    (run .decode (withFrame buildT f1)).statusWord = 0x01C ∧
    (run .decode (withFrame buildT f2)).fields =
      { meterId := 1, meterType := 0, physTamper := 3, encTamper := 0, consumption := 0, altId := 1 } ∧
    (run .decode (withFrame buildT f3)).fields =
      { meterId := 67108863, meterType := 15, physTamper := 1, encTamper := 1, consumption := 16777215, altId := 67108863 } ∧
    (run .decode (withFrame buildAlt f1)).fields.altId = 14561447 := by decide +kernel
/-- DEC-EN-A and DEC-EN-R: STATUS 00C and 024. -/
theorem test_decode_verifier :
    ((withFrame buildVer f1).decodeWith true).statusWord = 0x00C ∧
    ((withFrame buildVer f1).decodeWith false).statusWord = 0x024 ∧
    ((withFrame buildVer f1).decodeWith false).fields = resetT.fields := by decide +kernel

/-- DEC-1 with CAND_OFFSET = 3. -/
def decoded (b : Build) : State := { run .decode (withFrame b f1) with candOffset := 3 }

/-- EM1: the record's words, and STATUS 054. -/
theorem test_emit_em1 :
    (run .emit (decoded buildT)).fifo.map Record.words = [{ w0 := 0x1CBC614E, w1 := 0x140F3DDD, w2 := 0x00000003 }] ∧
    (run .emit (decoded buildT)).statusWord = 0x054 := by decide +kernel

/-- EM5: the second EMIT with REC_DEPTH = 1 holds. -/
def holding : State := run .emit (run .decode (run .emit (decoded buildOne)))

/-- EM5 to EM7 but for EM6's flag: STATUS 0DD, a NOP gives 4DD, and after the take and the engine's move the second record is
in, STATUS 0D4. -/
theorem test_emit_hold :
    holding.statusWord = 0x0DD ∧ (run .nop holding).statusWord = 0x4DD ∧
    (let s := withEvents holding [.takeRec, .engine]; (after (step (after (step s) s)) s).statusWord) = 0x0D4 := by
  decide +kernel
/-- PR1: PROC on one block, Ls = 200 < 398, only clears the buffer. -/
theorem test_proc_pr1 :
    let s := run .proc oneBlock
    s.statusWord = 0x001 ∧ (after (step s) s).accLen = 0 ∧ (after (step s) s).statusWord = 0 := by decide +kernel
/-- Program 2: CLEAR. -/
theorem test_clear : (run .clear oneBlock).accLen = 0 ∧ (run .clear oneBlock).mem = [] := by decide +kernel

/-- A5: the engine has taken a 399-byte block. -/
def halted : State := after (step ((withEvents resetT []).setOffers [List.replicate 399 127])) resetT

/-- A5 to A7: STATUS 802, NOP gives C02, SRESET 000. -/
theorem test_push_a5 : halted.statusWord = 0x802 ∧ (run .nop halted).statusWord = 0xC02 ∧
    (run .sreset (run .nop halted)).statusWord = 0 := by decide +kernel
/-- SY11: SRESET loses the records and returns to reset. -/
theorem test_sreset : run .sreset { decoded buildT with env := Env.empty } = resetT := by decide +kernel
theorem test_nop : run .nop oneBlock = oneBlock := by decide +kernel

/-! ### PUSH and the scan -/

/-- A well-formed push: PASS first, then the append (R100). -/
theorem test_push_order :
    let s := withEvents (resetT.setOffers [blockL 200 []]) [.engine, .takePass, .engine]
    let s1 := after (step s) s
    let s2 := after (step s1) s1
    let s3 := after (step s2) s2
    (s1.statusWord, s1.accLen, s2.accLen, s3.accLen, s3.statusWord) = (0x001, 0, 0, 400, 0) ∧
      s3.env.passGot = [blockL 200 []] := by decide +kernel
/-- Outer iterations of 600 samples: at u = 192 one more starts, at u = 288 none (section 2.5). -/
theorem test_scan_outer :
    (({ resetT with accLen := 1200 }).scanOuterMove 192).phase = .scanInner 192 399 0 ∧
    (({ resetT with accLen := 1200 }).scanOuterMove 288).phase = .accum := by decide +kernel
/-- S5: o = 205 is the last start of a sub-buffer, 206 is not evaluated. -/
theorem test_scan_inner_ends : (({ resetT with accLen := 1200 }).scanInnerMove 192 399 206).phase = .scanOuter 288 := by
  decide +kernel
/-- S6: after a match the cursor moves on by 192. -/
theorem test_scan_after_match : (resetT.scanEmitMove 0 399 0).phase = .scanInner 0 399 192 := by decide +kernel

/-! ### CSR accesses -/

/-- The answers the host has got after one access. -/
def access (s : State) (x : Nat) (acc : Access) : List BusAnswer :=
  (after (step (withEvents s [.csr x acc])) s).env.answers

/-- SY1 to SY3, SY12. -/
theorem test_csr_reads :
    access resetT 0x00 (.read 4) = [.value 0x45525443] ∧ access resetT 0x08 (.read 4) = [.value 0] ∧
    access resetT 0x48 (.read 4) = [.value 0] ∧ access resetT 0x04 (.read 2) = [.busError] ∧
    access resetT 0x06 (.read 4) = [.busError] := by decide +kernel
/-- SY4 and SY6: SB_DATA is sign-extended, and 0 from SB_SEL = 96 on. -/
theorem test_sb_data :
    ({ resetT with sb := tabulate 96 fun n => if n = 5 then -20000 else 0, sbSel := 5 }).wordAt 0x24 = 0xFFFFB1E0 ∧
    ({ resetT with sb := tabulate 96 fun _ => -20000, sbSel := 96 }).wordAt 0x24 = 0 := by decide +kernel
/-- SY5, SY9. -/
theorem test_csr_writes :
    (after (step (withEvents resetT [.csr 0x20 (.write 4 0x85)])) resetT).sbSel = 5 ∧
    (after (step (withEvents resetT [.csr 0x10 (.write 4 0xDEADBEEF)])) resetT).userParam = 0xDEADBEEF := by decide +kernel
/-- SY7 and SY8: W1C of bit 8 only, and BLOCK_ERR stays. -/
theorem test_status_w1c :
    (after (step (withEvents { resetT with errors := { illegalCmd := true, rangeErr := true, stateErr := false, blockErr := false } }
      [.csr 0x04 (.write 4 0x100)])) resetT).statusWord = 0x200 ∧
    (after (step (withEvents halted [.csr 0x04 (.write 4 0x800)])) halted).statusWord = 0x802 := by decide +kernel
/-- E1, E2 and E4: ILLEGAL_CMD, also when HALTED. -/
theorem test_illegal_words :
    (after (step (withEvents resetT [.csr 0x08 (.write 4 0x90000000)])) resetT).statusWord = 0x100 ∧
    (after (step (withEvents resetT [.csr 0x08 (.write 4 0x20000001)])) resetT).statusWord = 0x100 ∧
    (after (step (withEvents halted [.csr 0x08 (.write 4 0x80000001)])) halted).statusWord = 0x902 := by decide +kernel
/-- A platform access reaches the window at CSR_BASE. -/
theorem test_platform : (after (step (withEvents resetT [.platform 0x40000000 (.read 4)])) resetT).env.answers =
    [.value 0x45525443] := by decide +kernel

/-! ### Assembler (R86, R87) -/

theorem test_asm_corr : assembleLine "CORR 3 ; comment".toList = .line (.cmd (.corr 3)) ∧
    assembleLine "corr 0x1F".toList = .line (.cmd (.corr 31)) := by decide +kernel
theorem test_asm_errors : assembleLine "CORR 268435456".toList = .error .operandOutOfRange ∧
    assembleLine "SLICE 1".toList = .error .extraOperand := by decide +kernel
theorem test_asm_host_lines : assembleLine "wr STATUS, 0x300".toList = .line (.wr .status 0x300) ∧
    assembleLine "take REC".toList = .line .takeRec ∧ assembleLine ".word 0x90000000".toList = .line (.word 0x90000000) ∧
    assembleLine "TRY 3".toList = .line (.tryAt 3) ∧ assembleLine "ACK 0x400".toList = .line (.ack 0x400) := by decide +kernel

/-! ### Witnesses: states and operands that meet the hypotheses of each obligation -/

/-- A CMD write as the only thing the host plans. -/
def cmdWrite (s : State) (w : Word) : State := withEvents s [.csr 0x08 (.write 4 w)]

/-- Whether sample i of a stream is `Hi` for the frame `bits` at window start s, P = 2 (section 0, frame encoding). -/
def isHi (s bits i : Nat) : Bool :=
  if s < i ∧ i ≤ s + 192 then (Nat.testBit bits (95 - (i - s - 1) / 2) == decide ((i - s - 1) % 2 = 0)) else false

/-- n samples with one frame: E(s, bits). -/
def frameBlock (n s bits : Nat) : Block :=
  (List.range (2 * n)).map fun i => if isHi s bits (i / 2) then 227 else 127

/-- Program 1's block. -/
def framed : State := filled buildT (frameBlock 200 3 f1)

/-- A buffer of three blocks, as after the third push of vector S1. -/
def threeBlocks : State :=
  ((oneBlock.bufAppend (blockL 200 [])).bufAppend (blockL 200 []))

theorem witness_DecodeOfEncodedCommand : ∃ i : Instr, i.wellFormed = true := ⟨.corr 0xFFFFFFF, by decide⟩
theorem witness_EncodeOfDecodedWord : ∃ (w : Word) (i : Instr), decodeWord w = .command i := ⟨0x1FFFFFFF, _, rfl⟩
/-- By window offset and by platform address. -/
theorem witness_StepRunsWrittenCommand :
    (∃ (s : State) (w : Word) (i : Instr) (rest : List Event),
      s.accesses 0x08 (.write 4 w) rest ∧ decodeWord w = .command i ∧ s.env.agenda = .csr 0x08 (.write 4 w) :: rest) ∧
    ∃ (s : State) (w : Word) (i : Instr) (rest : List Event), s.accesses 0x08 (.write 4 w) rest ∧ decodeWord w = .command i ∧
      s.env.agenda = .platform 0x40000008 (.write 4 w) :: rest :=
  ⟨⟨cmdWrite oneBlock 0x10000006, 0x10000006, .corr 6, [], .inl rfl, rfl, rfl⟩,
    ⟨withEvents oneBlock [.platform 0x40000008 (.write 4 0x20000000)], 0x20000000, .slice, [], .inr rfl, rfl, rfl⟩⟩
theorem witness_CmdWriteDispatchOrder :
    (cmdWrite halted 0x80000000).accesses 0x08 (.write 4 0x80000000) [] ∧
    (withEvents resetT [.platform 0x40000008 (.write 4 0x30000000)]).accesses 0x08 (.write 4 0x30000000) [] :=
  ⟨.inl rfl, .inr rfl⟩
/-- The boundary words 0x90000000 and 0x00000001, each way of writing CMD. -/
theorem witness_IllegalWordOnlySetsFlag :
    (cmdWrite halted 0x90000000).writesCmd 0x90000000 [] ∧ (withEvents holding [.slowCmd 0x00000001]).writesCmd 0x00000001 [] ∧
    (withEvents resetT [.platform 0x40000008 (.write 4 0x20000001)]).writesCmd 0x20000001 [] ∧
    0x9 ≤ ((0x90000000 : Word).extractLsb 31 28).toNat ∧
    ((0x00000001 : Word).extractLsb 31 28).toNat ≠ 0x1 ∧ ((0x00000001 : Word).extractLsb 27 0).toNat ≠ 0 :=
  ⟨.inl (.inl rfl), .inr rfl, .inl (.inr rfl), by decide, by decide, by decide⟩
theorem witness_CommandOutsideAccumRaisesStateErr :
    (Instr.nop ≠ .sreset ∧ holding.mode ≠ .accum) ∧ (Instr.corr 0 ≠ .sreset ∧ halted.mode ≠ .accum) := by decide +kernel
theorem witness_SlowCommandRunsLater :
    (∃ (s : State) (w : Word) (i : Instr) (rest : List Event),
      s.env.agenda = .slowCmd w :: rest ∧ decodeWord w = .command i ∧ i ≠ .sreset ∧ s.mode = .accum) ∧
    (∃ (s : State) (w : Word) (i : Instr) (rest : List Event),
      s.env.agenda = .slowCmd w :: rest ∧ decodeWord w = .command i ∧ i ≠ .sreset ∧ s.mode ≠ .accum) ∧
    (∃ (s : State) (w : Word) (rest : List Event), s.env.agenda = .slowCmd w :: rest ∧ decodeWord w = .command .sreset) ∧
    (∃ (s : State) (i : Instr), s.phase = .busy i ∧ s.env.agenda = []) ∧
    ∃ (s : State) (i : Instr) (rest : List Event), s.phase = .busy i ∧ s.env.agenda = .engine :: rest :=
  ⟨⟨withEvents oneBlock [.slowCmd 0x20000000], _, .slice, _, rfl, rfl, by decide, rfl⟩,
    ⟨withEvents (resetT.setPhase (.busy .slice)) [.slowCmd 0x20000000], _, .slice, _, rfl, rfl, by decide, by decide⟩,
    ⟨withEvents holding [.slowCmd 0x80000000], 0x80000000, [], rfl, rfl⟩,
    ⟨resetT.setPhase (.busy .slice), _, rfl, rfl⟩, ⟨withEvents (resetT.setPhase (.busy .slice)) [.engine], _, _, rfl, rfl⟩⟩
theorem witness_NopChangesNothing :
    ((0x00000001 : Word).extractLsb 31 28).toNat = 0 ∧ (0x00000001 : Word).extractLsb 27 0 ≠ 0 ∧
    resetT.mode = .accum ∧ holding.mode ≠ .accum := by decide +kernel
theorem witness_ClearEmptiesBuffer : oneBlock.mode = .accum := rfl
theorem witness_SresetResetsEverything : (withEvents halted [.rst]).env.agenda = .rst :: [] := rfl

theorem witness_CorrWritesSoftBits : oneBlock.mode = .accum ∧ 6 + 97 * oneBlock.params.p ≤ oneBlock.ls := by decide
theorem witness_CorrClosedForm : ∃ (s t : State) (a n : Nat), s.mode = .accum ∧ a + 97 * s.params.p ≤ s.ls ∧ n < 96 ∧
    exec (.corr a) s = .next t := ⟨oneBlock, _, 6, 95, rfl, by decide, by decide, rfl⟩
theorem witness_CorrOutsideBufferRaisesRangeErr : oneBlock.mode = .accum ∧ oneBlock.ls < 7 + 97 * oneBlock.params.p := by decide
theorem witness_SoftBitsFitTheirRegister : ∃ (s t : State) (a n : Nat), s.mode = .accum ∧ a + 97 * s.params.p ≤ s.ls ∧ n < 96 ∧
    exec (.corr a) s = .next t := ⟨framed, _, 6, 0, rfl, by decide, by decide, rfl⟩
/-- Even P with power 0 in the last slot, and odd P with power 1 (vector V7). -/
theorem witness_ConstantPowerSlot :
    (∃ (s t u : State) (a n : Nat) (q : Int), s.mode = .accum ∧ a + 97 * s.params.p ≤ s.ls ∧ n < 96 ∧
      (∀ j, n * s.params.p + 1 ≤ j → j ≤ n * s.params.p + s.params.p → s.power (a + j) = q) ∧
      exec (.corr a) s = .next t ∧ exec .slice t = .next u ∧ s.params.p % 2 = 0) ∧
    ∃ (s t u : State) (a n : Nat) (q : Int), s.mode = .accum ∧ a + 97 * s.params.p ≤ s.ls ∧ n < 96 ∧
      (∀ j, n * s.params.p + 1 ≤ j → j ≤ n * s.params.p + s.params.p → s.power (a + j) = q) ∧
      exec (.corr a) s = .next t ∧ exec .slice t = .next u ∧ s.params.p % 2 = 1 := by
  refine ⟨⟨oneBlock, _, _, 6, 95, 0, rfl, by decide, by decide, ?_, rfl, rfl, rfl⟩,
    ⟨filled buildOdd (blockL 300 [(2, 128), (4, 128), (6, 128)]), _, _, 0, 0, 1, rfl, by decide, by decide, ?_, rfl, rfl, rfl⟩⟩
  · intro j h1 h2
    have h1 : 191 ≤ j := h1
    have h2 : j ≤ 192 := h2
    have : j = 191 ∨ j = 192 := by omega
    rcases this with rfl | rfl <;> decide +kernel
  · intro j h1 h2
    have h1 : 1 ≤ j := h1
    have h2 : j ≤ 3 := h2
    have : j = 1 ∨ j = 2 ∨ j = 3 := by omega
    rcases this with rfl | rfl | rfl <;> decide +kernel
theorem witness_PowerOfBufferBytes : ∃ (s : State) (k : Nat) (i q : Byte),
    s.mem.read (2 * k) = some i ∧ s.mem.read (2 * k + 1) = some q := ⟨oneBlock, 199, 127, 127, by decide +kernel, by decide +kernel⟩

theorem witness_SliceTakesSigns : oneBlock.mode = .accum := rfl
theorem witness_SliceIsIdempotent : ∃ s t u : State, s.mode = .accum ∧ exec .slice s = .next t ∧ u.mode = .accum ∧
    u.sb = t.sb ∧ u.bv = t.bv := ⟨oneBlock, _, run .pmatch (run .slice oneBlock), rfl, rfl, rfl, rfl, rfl⟩
theorem witness_PmatchComparesPreamble : (withFrame buildT f1).mode = .accum := rfl
theorem witness_DecodeExtractsFields :
    (withFrame buildT f1).mode = .accum ∧ (withFrame buildT f1).flags.matched = true ∧
    (withFrame buildT f1).params.verifyMode = .disabled ∧ (withFrame buildT f1).params.altStart = .at56 := ⟨rfl, rfl, rfl, rfl⟩
theorem witness_DecodeAsksVerifier :
    (withFrame buildVer f1).mode = .accum ∧ (withFrame buildVer f1).flags.matched = true ∧
    (withFrame buildVer f1).params.verifyMode = .enabled := ⟨rfl, rfl, rfl⟩
theorem witness_DecodeNeedsMatch : resetT.mode = .accum ∧ resetT.flags.matched = false := ⟨rfl, rfl⟩
/-- F1 with BV[23] and BV[80..95] all inverted. -/
theorem witness_UnextractedBitsDoNotMatter : ∃ (s : State) (v : Vector Bool 96) (t t' : State),
    s.mode = .accum ∧ s.flags.matched = true ∧ s.params.verifyMode = .disabled ∧
    (∀ n, 21 ≤ n → n < 80 → n ≠ 23 → v.toList.getD n false = s.BV n) ∧
    exec .decode s = .next t ∧ exec .decode { s with bv := v } = .next t' := by
  have h : ∀ n < 80, 21 ≤ n → n ≠ 23 →
      (bvOf (f1 ^^^ 0x1000000000000000000 ^^^ 0xFFFF)).toList.getD n false = (withFrame buildT f1).BV n := by decide +kernel
  exact ⟨withFrame buildT f1, bvOf (f1 ^^^ 0x1000000000000000000 ^^^ 0xFFFF), _, _, rfl, rfl, rfl,
    fun n h1 h2 h3 => h n h2 h1 h3, rfl, rfl⟩

/-- Three records in the FIFO of T, one place left. -/
def almostFull : State :=
  { decoded buildT with fifo := [(decoded buildT).record, (decoded buildT).record, (decoded buildT).record] }

theorem witness_EmitSendsRecord :
    (resetT.mode = .accum ∧ resetT.flags.decOk = false) ∧
    (almostFull.mode = .accum ∧ almostFull.flags.decOk = true ∧ almostFull.fifo.length < almostFull.params.recDepth) := by
  decide +kernel
/-- EM4: decoded again with the FIFO full. -/
def redecoded : State := run .decode (run .emit (decoded buildOne))

/-- EM7's host: a take, then the engine's move. -/
def holdingTake : State := withEvents holding [.takeRec, .engine]

theorem witness_EmitHoldsWhileFull :
    (redecoded.mode = .accum ∧ redecoded.flags.decOk = true ∧ redecoded.fifo.length = redecoded.params.recDepth) ∧
    (holding.phase = .emitHold ∧ holding.flags.decOk = true ∧ holding.params.recDepth ≤ holding.fifo.length ∧
      holding.env.agenda = []) ∧
    (holdingTake.phase = .emitHold ∧ holdingTake.flags.decOk = true ∧ holdingTake.fifo = [(decoded buildOne).record] ∧
      holdingTake.fifo.length = holdingTake.params.recDepth ∧ holdingTake.env.agenda = [.takeRec, .engine]) := by
  decide +kernel
theorem witness_TakeRecord :
    ((withEvents almostFull [.takeRec]).env.agenda = .takeRec :: [] ∧ (withEvents almostFull [.takeRec]).fifo ≠ []) ∧
    (withEvents oneBlock [.takeRec]).env.agenda = .takeRec :: [] ∧ (withEvents oneBlock [.takeRec]).fifo = [] := by
  decide +kernel
theorem witness_FifoMoves : ∃ t, step (withEvents almostFull [.takeRec]) = .next t := ⟨_, rfl⟩

theorem witness_PushGoesToPassFirst :
    (∃ (s : State) (b : Block) (bs : List Block) (rest : List Event),
      s.mode = .accum ∧ s.env.agenda = .engine :: rest ∧ s.env.offers = b :: bs ∧ b.length = s.params.blockSize) ∧
    (∃ (s : State) (b : Block), s.phase = .passHold b ∧ s.env.agenda = []) ∧
    ∃ (s : State) (b : Block) (rest : List Event), s.phase = .passHold b ∧ s.env.agenda = .takePass :: rest :=
  ⟨⟨withEvents (resetT.setOffers [blockL 200 []]) [.engine], _, _, _, rfl, rfl, rfl, by decide +kernel⟩,
    ⟨resetT.setPhase (.passHold (blockL 200 [])), _, rfl, rfl⟩,
    ⟨withEvents (resetT.setPhase (.passHold (blockL 200 []))) [.takePass], _, _, rfl, rfl⟩⟩
theorem witness_MalformedBlockHalts : ∃ (s : State) (b : Block) (bs : List Block) (rest : List Event),
    s.mode = .accum ∧ s.env.agenda = .engine :: rest ∧ s.env.offers = b :: bs ∧ b.length ≠ s.params.blockSize :=
  ⟨withEvents (resetT.setOffers [[127]]) [.engine], _, _, _, rfl, rfl, rfl, by decide⟩

/-- Two blocks in the buffer and a third passed on: the append makes T READY. -/
def thirdPassed : State := (oneBlock.bufAppend (blockL 200 [])).setPhase (.passTaken (blockL 200 []))

theorem thirdPassed_inv : thirdPassed.BufferInv :=
  ⟨by decide +kernel, by decide +kernel, by decide +kernel, fun _ => by decide +kernel,
    fun b h => by
      have h : some (blockL 200 []) = some b := h
      injection h with h
      subst h
      decide +kernel⟩
theorem witness_PushAppendsBlock : ∃ (s : State) (b : Block), s.BufferInv ∧ s.phase = .passTaken b ∧ s.env.agenda = [] :=
  ⟨thirdPassed, _, thirdPassed_inv, rfl, rfl⟩
theorem witness_PassThroughKeepsEveryBlock : ∃ s t : State,
    (s.env.agenda = [] ∨ ∃ e rest, s.env.agenda = e :: rest ∧ (e = .engine ∨ e = .takePass ∨ e = .takeRec ∨ e = .poll)) ∧
    s.phase ≠ .busy .sreset ∧ (∀ b bs, s.env.offers = b :: bs → b.length = s.params.blockSize) ∧ step s = .next t :=
  ⟨withEvents thirdPassed [.takePass], _, .inr ⟨_, _, rfl, .inr (.inl rfl)⟩, by decide +kernel,
    fun _ _ h => absurd h (List.cons_ne_nil _ _).symm, rfl⟩
/-- A halted engine with nothing planned, one whose host takes a record, and one that is reset. -/
theorem witness_HaltedUntilReset :
    (halted.mode = .halted ∧ halted.env.agenda = [] ∧ isNext (step (withEvents halted [.rst])) = true) ∧
    ∃ t r, step (withEvents { halted with fifo := [r] } [.takeRec]) = .next t ∧ t.fifo = [] :=
  ⟨by decide +kernel, _, (decoded buildT).record, rfl, rfl⟩

theorem witness_ProcStartsProcess : oneBlock.mode = .accum := rfl
/-- The last window of a sub-buffer of 200 samples is at o = 6, and the window at 3 holds a frame. -/
theorem witness_InnerLoopMove :
    let s := framed.setPhase (.scanInner 0 200 3)
    s.phase = .scanInner 0 200 3 ∧ s.env.agenda = [] ∧ 3 + 97 * s.params.p ≤ 200 ∧
      (s.evaluate 3).flags.matched = true ∧ (s.evaluate 6).flags.matched = false ∧
      6 + 97 * s.params.p ≤ 200 ∧ 200 < 7 + 97 * s.params.p := by decide +kernel
/-- 600 samples: u = 202 is the last start of a sub-buffer. -/
theorem witness_OuterLoopAndEmitMoves :
    (threeBlocks.setPhase (.scanOuter 202)).env.agenda = [] ∧
    (threeBlocks.params.blockSize : Int) - 1 - threeBlocks.params.jump ≤ (threeBlocks.ls : Int) - 202 ∧
    (threeBlocks.ls : Int) - 203 < (threeBlocks.params.blockSize : Int) - 1 - threeBlocks.params.jump ∧
    resetT.flags.decOk = false ∧ (almostFull.flags.decOk = true ∧ almostFull.fifo.length < almostFull.params.recDepth) ∧
    (holding.flags.decOk = true ∧ holding.params.recDepth ≤ holding.fifo.length) := by decide +kernel

/-- One block and the scan's inner loop at a cursor. -/
def scanning (lsub o : Nat) : State := oneBlock.setPhase (.scanInner 0 lsub o)

theorem scanning_inv : (scanning 200 6).ScanInv ∧ (scanning 194 0).ScanInv ∧ (scanning 193 0).ScanInv :=
  ⟨⟨by decide, by decide⟩, ⟨by decide, by decide⟩, by decide, by decide⟩
theorem witness_ScanNeverOutOfRange : ∃ s t : State, s.ScanInv ∧ s.phase.scanning = true ∧ s.engineMove = .next t ∧
    s.phase = .scanInner 0 200 6 ∧ 6 + 97 * s.params.p ≤ 200 :=
  ⟨scanning 200 6, _, scanning_inv.1, rfl, rfl, rfl, by decide⟩
/-- One step in a sub-buffer of 194 samples, none in one of 193. -/
theorem witness_InnerStepCount :
    ((scanning 194 0).phase = .scanInner 0 194 0 ∧ (scanning 194 0).env.agenda = [] ∧ (scanning 194 0).ScanInv ∧
      ∀ j < 1, ((scanning 194 0).evaluate (0 + j * (scanning 194 0).params.jump)).flags.matched = false) ∧
    ((scanning 193 0).phase = .scanInner 0 193 0 ∧ (scanning 193 0).env.agenda = [] ∧ (scanning 193 0).ScanInv) :=
  ⟨⟨rfl, rfl, scanning_inv.2.1, by decide +kernel⟩, rfl, rfl, scanning_inv.2.2⟩
theorem witness_ScanEndsOrHolds : ∃ s : State, s.ScanInv ∧ s.phase.scanning = true ∧ s.env.agenda = [] :=
  ⟨scanning 200 6, scanning_inv.1, rfl, rfl⟩
/-- T with JUMP = 390: a scan of one block evaluates one window, at 0, and finds the frame there. -/
theorem witness_ProcessRunsTheScan :
    let s := filled ⟨{ paramsT with jump := 390 }, by decide⟩ (frameBlock 200 0 f1)
    s.mode = .accum ∧ s.env.agenda = [] ∧ s.scanAll.fifo.length = 1 ∧ 1 ≤ s.params.recDepth := by decide +kernel
theorem witness_TryIsOneScanEvaluation :
    framed.mode = .accum ∧ 3 + 97 * framed.params.p ≤ framed.ls ∧ framed.fifo.length < framed.params.recDepth ∧
    (framed.evaluate 3).flags.matched = true ∧ (framed.evaluate 4).flags.matched = false := by decide +kernel

theorem witness_BitVectorPacking : 2 < 3 ∧ 31 < 32 := by decide
theorem resetT_softBits : resetT.SoftBitInv := fun n h => by
  rw [show resetT.SB n = 0 from State.SB_resetWith buildT h]
  decide
theorem witness_SbDataShowsSelectedSoftBit :
    (resetT.setSbSel 95).SoftBitInv ∧ (resetT.setSbSel 95).sbSel.toNat < 96 ∧
    (resetT.setSbSel 96).SoftBitInv ∧ 96 ≤ (resetT.setSbSel 96).sbSel.toNat :=
  ⟨resetT_softBits, by decide, resetT_softBits, by decide⟩
theorem witness_CsrReadValues :
    (resetT.mode ≠ .proc ∧ 0x44 < 256 ∧ 0x44 % 4 = 0 ∧ (withEvents resetT [.csr 0x44 (.read 4)]).accesses 0x44 (.read 4) []) ∧
    (halted.mode ≠ .proc ∧ 0xFC < 256 ∧ 0xFC % 4 = 0 ∧
      (withEvents halted [.platform 0x400000FC (.read 4)]).accesses 0xFC (.read 4) []) :=
  ⟨⟨by decide, by decide, by decide, .inl rfl⟩, by decide +kernel, by decide, by decide, .inr (by decide +kernel)⟩
theorem witness_BusyReadKeepsSettledBits :
    holding.mode = .proc ∧ 0x04 < 256 ∧ 0x04 % 4 = 0 ∧ (withEvents holding [.csr 0x04 (.read 4)]).accesses 0x04 (.read 4) [] :=
  ⟨by decide +kernel, by decide, by decide, .inl rfl⟩
theorem witness_BusErrorChangesNothing :
    (255 < 256 ∧ 255 % 4 ≠ 0 ∧ (withEvents resetT [.csr 255 (.read 4)]).accesses 255 (.read 4) []) ∧
    (2 ≠ 4 ∧ (withEvents resetT [.platform 0x40000008 (.write 2 0)]).accesses 8 (.write 2 0) []) ∧
    (256 ≤ 256 ∧ (withEvents resetT [.csr 256 (.read 4)]).accesses 256 (.read 4) []) ∧
    0x3FFFFFFF < resetT.params.csrBase ∧
      (withEvents resetT [.platform 0x3FFFFFFF (.read 4)]).env.agenda = .platform 0x3FFFFFFF (.read 4) :: [] :=
  ⟨⟨by decide, by decide, .inl rfl⟩, ⟨by decide, .inr rfl⟩, ⟨by decide, .inl rfl⟩, by decide, rfl⟩
theorem witness_CsrWriteEffects : ∀ x ∈ [0x04, 0x10, 0x20, 0x48],
    x < 256 ∧ x % 4 = 0 ∧ (withEvents halted [.csr x (.write 4 0x700)]).accesses x (.write 4 0x700) [] := by
  intro x hx
  refine ⟨?_, ?_, .inl rfl⟩ <;> revert x <;> decide
theorem witness_UserParamHasNoEffect : ∃ (i : Instr) (s t : State), i ≠ .sreset ∧ exec i s = .next t :=
  ⟨.decode, withFrame buildT f1, _, by decide, rfl⟩

theorem witness_RegistersHaveTheirWriters : ∃ s t : State, step s = .next t := ⟨cmdWrite oneBlock 0x10000006, _, rfl⟩
/-- PROC changes MODE; resetT has nothing offered and nothing planned. -/
theorem witness_ModeChangesOnlyAsListed :
    (isNext (step (cmdWrite oneBlock 0x60000000)) = true ∧
      oneBlock.mode ≠ (after (step (cmdWrite oneBlock 0x60000000)) oneBlock).mode) ∧
    resetT.mode = .accum ∧ resetT.env.agenda = [] ∧ resetT.env.offers = [] := by decide +kernel
theorem witness_ErrorsStayUntilCleared : ∃ s t : State, step s = .next t := ⟨withEvents halted [.csr 0x04 (.write 4 0x400)], _, rfl⟩
theorem witness_StepStopsOnlyOutsideWindow :
    (withEvents resetT [.csr 255 (.read 4), .platform 0x400000FF (.read 1), .engine]).staysInWindow := by
  intro e he
  simp only [withEvents, State.setAgenda, State.setEnv, Env.setAgenda, List.mem_cons, List.not_mem_nil, or_false] at he
  rcases he with rfl | rfl | rfl
  · show 255 < 256; decide
  · show 0x40000000 ≤ 0x400000FF ∧ 0x400000FF < 0x40000000 + 256; decide
  · trivial

theorem witness_StepKeepsBufferInvariant : ∃ s t : State, s.BufferInv ∧ step s = .next t := ⟨thirdPassed, _, thirdPassed_inv, rfl⟩
theorem witness_StepKeepsSoftBitRange : ∃ s t : State, s.SoftBitInv ∧ step s = .next t :=
  ⟨cmdWrite resetT 0x20000000, _, resetT_softBits, rfl⟩
/-- After DEC-1: MATCH, DEC_OK and LOWCONF are set and say what BV and the registers hold. -/
theorem witness_StepKeepsResultInvariant : ∃ s t : State, s.ResultInv ∧ step s = .next t :=
  ⟨cmdWrite (decoded buildT) 0x50000000, _,
    { matched_preamble := fun _ => by decide +kernel
      decOk_matched := by decide +kernel
      vRej_matched := by decide +kernel
      vRej_verifier := by decide +kernel
      notBoth := by decide +kernel
      decOk_fields := by decide +kernel
      decOk_lowConf := by decide +kernel
      lowConf_disabled := by decide +kernel
      depth := by decide +kernel
      records := by decide +kernel }, rfl⟩
theorem witness_StepKeepsHaltAndScanInvariants : ∃ s t : State, step s = .next t ∧ s.HaltInv ∧ s.ScanInv :=
  ⟨scanning 200 6, _, rfl, by unfold State.HaltInv; decide +kernel, scanning_inv.1⟩

end Sys2Proof.Tests
end

section
/-! SUPPORT. What a step does to the registers, and what makes it do so: one view of `step_turn` with the engine's moves and the
commands resolved, from which the rules over all steps are read off. -/

namespace Sys2Proof.Machine

/-- The next step is an EMIT, host-issued or in SCAN, or the end of its hold (R190, R277). -/
def State.emits (s : State) : Prop :=
  s.performs .emit ∨ (s.engineTurn ∧ (s.phase = .emitHold ∨ ∃ u lsub o, s.phase = .scanEmit u lsub o))

/-- A step that is no reset, as ERTCORE's registers see it. `x` is the host's side afterwards. -/
inductive Acted (s : State) : State → Prop where
  | host (x : Env) : Acted s (s.setEnv x)
  | raised (x : Env) (e : ErrorFlag) (h : e = .illegalCmd ∨ e = .stateErr) : Acted s ((s.setEnv x).raise e)
  | acked (x : Env) (v : Word) (rest : List Event) (h : s.accesses 0x04 (.write 4 v) rest) : Acted s ((s.setEnv x).ackErrors v)
  | wroteParam (x : Env) (v : Word) (rest : List Event) (h : s.accesses 0x10 (.write 4 v) rest) :
      Acted s ((s.setEnv x).setUserParam v)
  | wroteSel (x : Env) (v : Word) (rest : List Event) (h : s.accesses 0x20 (.write 4 v) rest) :
      Acted s ((s.setEnv x).setSbSel (v.truncate 7))
  | tookRecord (x : Env) (r : Record) (rs : List Record) (h : s.fifo = r :: rs)
      (hx : x.recGot = s.env.recGot ++ [r.words]) : Acted s ((s.setEnv x).setFifo rs)
  | moved (x : Env) (y : Phase) (h : s.phase ≠ .halted) (hy : y ≠ .halted) : Acted s ((s.setEnv x).setPhase y)
  | halted (x : Env) : Acted s (s.setEnv x).haltOnBlock
  | appended (x : Env) (b : Block) (y : Phase) (ht : s.engineTurn) (h : s.phase = .passTaken b) (hy : y ≠ .halted) :
      Acted s (((s.setEnv x).bufAppend b).setPhase y)
  | emptied (x : Env) (h : s.performs .clear ∨ (s.engineTurn ∧ ∃ u, s.phase = .scanOuter u)) :
      Acted s ((s.setEnv x).bufClear.setPhase .accum)
  | correlated (x : Env) (a : Nat) (h : s.performs (.corr a)) : Acted s (((s.corr a).setEnv x).setPhase .accum)
  | sliced (x : Env) (h : s.performs .slice) : Acted s ((s.slice.setEnv x).setPhase .accum)
  | compared (x : Env) (h : s.performs .pmatch) : Acted s ((s.pmatch.setEnv x).setPhase .accum)
  | decoded (x : Env) (h : s.performs .decode) : Acted s ((s.setEnv x).decodeFrame.setPhase .accum)
  | missed (x : Env) (a : Nat) (y : Phase) (h : s.scansWindow a) (hy : y ≠ .halted) :
      Acted s (((s.evaluate a).setEnv x).setPhase y)
  | matched (x : Env) (a : Nat) (y : Phase) (h : s.scansWindow a) (hy : y ≠ .halted) :
      Acted s (((s.evaluate a).setEnv x).decodeFrame.setPhase y)
  | sent (x : Env) (y : Phase) (h : s.emits) (hd : s.flags.decOk = true) (hr : s.fifo.length < s.params.recDepth)
      (hy : y ≠ .halted) : Acted s ((s.sendRecord.setEnv x).setPhase y)

/-- CORR, SLICE and PMATCH do not read the host's side. -/
theorem State.corr_setEnv (s : State) (x : Env) (a : Nat) : (s.setEnv x).corr a = (s.corr a).setEnv x := by
  unfold State.corr; rw [State.ls_setEnv, State.params_setEnv]; split <;> rfl

theorem State.evaluate_setEnv (s : State) (x : Env) (a : Nat) : (s.setEnv x).evaluate a = (s.evaluate a).setEnv x := by
  rw [State.evaluate, State.corr_setEnv]; rfl

/-- ACCUM is the mode of one phase. -/
theorem Phase.mode_eq_accum {y : Phase} : y.mode = .accum ↔ y = .accum := by cases y <;> simp [Phase.mode]

/-- HALTED is the mode of one phase. -/
theorem Phase.mode_eq_halted {y : Phase} : y.mode = .halted ↔ y = .halted := by cases y <;> simp [Phase.mode]

/-- A command other than SRESET has its effect in ACCUM and is refused elsewhere (R85). -/
theorem exec_of_accum {i : Instr} {s : State} (hi : i ≠ .sreset) (h : s.phase = .accum) : exec i s = .next (effect i s) := by
  rcases exec_next i s with ⟨e, -⟩ | ⟨-, -, e⟩ | ⟨-, hm, -⟩
  · exact absurd e hi
  · exact e
  · exact absurd (Phase.mode_eq_accum.mpr h) hm

theorem exec_of_not_accum {i : Instr} {s : State} (hi : i ≠ .sreset) (h : s.phase ≠ .accum) :
    exec i s = .next (s.raise .stateErr) := by
  rcases exec_next i s with ⟨e, -⟩ | ⟨-, hp, -⟩ | ⟨-, -, e⟩
  · exact absurd e hi
  · exact absurd hp h
  · exact e

/-- Setting the phase to what it is changes nothing. -/
theorem State.setPhase_of_phase {s : State} {y : Phase} (h : s.phase = y) : s.setPhase y = s := h ▸ s.setPhase_same

/-- A halted engine performs no command (R85, R244). -/
theorem State.performs_not_halted {s : State} {i : Instr} (h : s.performs i) : s.phase ≠ .halted := by
  rcases h with ⟨hm, -⟩ | ⟨hp, -⟩
  · rw [Phase.mode_eq_accum.mp hm]; nofun
  · rw [hp]; nofun

/-- A halted engine evaluates no window and ends no EMIT (R244). -/
theorem State.scansWindow_not_halted {s : State} {a : Nat} (h : s.scansWindow a) : s.phase ≠ .halted := by
  obtain ⟨-, u, lsub, o, hp, -⟩ := h
  rw [hp]; nofun

theorem State.emits_not_halted {s : State} (h : s.emits) : s.phase ≠ .halted := by
  rcases h with h | ⟨-, hp | ⟨u, lsub, o, hp⟩⟩
  · exact State.performs_not_halted h
  · rw [hp]; nofun
  · rw [hp]; nofun

/-- EMIT, from wherever it may hold: it goes on, holds or sends the record (R190, R277). -/
theorem emitThen_acted {s : State} (h : s.emits) (x : Env) {hold done : Phase} (hhold : hold ≠ .halted)
    (hdone : done ≠ .halted) : Acted s ((s.setEnv x).emitThen hold done) := by
  have hm := State.emits_not_halted h
  rcases (s.setEnv x).emitThen_cases hold done with ⟨-, e⟩ | ⟨hd, hr, e⟩ | ⟨-, -, e⟩ <;> rw [e]
  · exact .moved x done hm hdone
  · exact .sent x done h hd hr hdone
  · exact .moved x hold hm hhold

/-- EMIT does not read the phase. -/
theorem State.emitThen_setPhase (s : State) (y hold done : Phase) :
    (s.setPhase y).emitThen hold done = s.emitThen hold done := by
  simp only [State.emitThen, State.hasRoom]; rfl

/-- A command other than SRESET, where it finds MODE = ACCUM. -/
theorem effect_acted {s : State} {i : Instr} (h : s.performs i) (hi : i ≠ .sreset) (x : Env) :
    Acted s (effect i ((s.setEnv x).setPhase .accum)) := by
  have hm := State.performs_not_halted h
  cases i with
  | nop => exact .moved x .accum hm nofun
  | corr a => rw [effect, State.corr_setPhase, State.corr_setEnv]; exact .correlated x a h
  | slice => exact .sliced x h
  | pmatch => exact .compared x h
  | decode => rw [effect, State.decodeFrame_setPhase]; exact .decoded x h
  | emit => rw [effect, State.emitThen_setPhase]; exact emitThen_acted (.inl h) x nofun nofun
  | proc => exact .moved x (.scanOuter 0) hm nofun
  | clear => exact .emptied x (.inl h)
  | sreset => exact absurd rfl hi

/-- A move of the engine. -/
theorem engineMove_acted {s t : State} {x : Env} (ht : s.engineTurn) (h : (s.setEnv x).engineMove = .next t) :
    (s.resets ∧ t = { State.resetWith s.build with env := t.env }) ∨ Acted s t := by
  have live {y : Phase} (hp : s.phase = y) (hy : y ≠ .halted) : s.phase ≠ .halted := hp ▸ hy
  rw [State.engineMove, State.setEnv_phase] at h
  cases hp : s.phase <;> simp only [hp] at h
  case accum =>
    split at h <;> injection h with h <;> subst h
    · exact .inr (.host x)
    · rename_i b rest _
      rcases (s.setEnv (x.setOffers rest)).acceptBlock_cases b with ⟨-, e⟩ | ⟨-, e⟩ <;>
        simp only [State.setOffers_eq, State.setEnv_env, State.setEnv_setEnv, e]
      · exact .inr (.moved _ _ (live hp nofun) nofun)
      · exact .inr (.halted _)
  case busy i =>
    rcases exec_next i ((s.setEnv x).setPhase .accum) with ⟨rfl, e⟩ | ⟨hi, -, e⟩ | ⟨-, hm, -⟩
    · rw [h] at e; injection e with e; subst e
      exact .inl ⟨.inr (.inr ⟨hp, ht⟩), rfl⟩
    · rw [h] at e; injection e with e; subst e
      exact .inr (effect_acted (s := s) (.inr ⟨hp, ht⟩) hi x)
    · exact absurd rfl hm
  all_goals (injection h with h; subst h; right)
  case halted => exact .host x
  case passHold => exact .host x
  case passTaken b =>
    rcases (s.setEnv x).finishPush_cases b with ⟨-, e⟩ | ⟨-, e⟩ <;> rw [e] <;> exact .appended x b _ ht hp nofun
  case emitHold => exact emitThen_acted (.inr ⟨ht, .inl hp⟩) x nofun nofun
  case scanOuter u =>
    rcases (s.setEnv x).scanOuterMove_cases u with ⟨-, e⟩ | ⟨-, e⟩ <;> rw [e]
    · exact .moved x _ (live hp nofun) nofun
    · exact .emptied x (.inr ⟨ht, u, hp⟩)
  case scanInner u lsub o =>
    have hw (hfit : o + s.params.win ≤ lsub) : s.scansWindow (u + o) := ⟨ht, u, lsub, o, hp, hfit, rfl⟩
    rcases (s.setEnv x).scanInnerMove_cases u lsub o with ⟨hfit, -, e⟩ | ⟨hfit, -, e⟩ | ⟨-, e⟩ <;> rw [e]
    · rw [State.evaluate_setEnv]; exact .matched x _ _ (hw hfit) nofun
    · rw [State.evaluate_setEnv]; exact .missed x _ _ (hw hfit) nofun
    · exact .moved x _ (live hp nofun) nofun
  case scanEmit u lsub o => exact emitThen_acted (.inr ⟨ht, .inr ⟨u, lsub, o, hp⟩⟩) x nofun nofun

/-- What a step does: a reset, or one of the above. -/
theorem step_acted {s t : State} (h : step s = .next t) :
    (s.resets ∧ t = { State.resetWith s.build with env := t.env }) ∨ Acted s t := by
  cases step_turn h with
  | engine l ht hm => exact engineMove_acted ht hm
  | command w i rest ha hd he =>
    rcases exec_next i ((s.setAgenda rest).answer .written) with ⟨rfl, e⟩ | ⟨hi, hp, e⟩ | ⟨-, -, e⟩ <;>
      rw [he] at e <;> injection e with e <;> subst e
    · exact .inl ⟨.inr (.inl ⟨w, rest, .inl ha, hd⟩), rfl⟩
    · rw [← State.setPhase_of_phase hp]
      exact .inr (effect_acted (s := s) (.inl ⟨Phase.mode_eq_accum.mpr hp, w, rest, ha, hd⟩) hi _)
    · exact .inr (.raised _ .stateErr (.inr rfl))
  | slow w i rest ha hd hi hp => exact .inr (.moved _ _ (by rw [hp]; nofun) nofun)
  | refusedCommand w e rest ha he => exact .inr (.raised _ e he)
  | reset x hr => exact .inl ⟨hr, rfl⟩
  | status v rest ha => exact .inr (.acked _ v rest ha)
  | param v rest ha => exact .inr (.wroteParam _ v rest ha)
  | sel v rest ha => exact .inr (.wroteSel _ v rest ha)
  | tookRecord r rs rest ha hf => exact .inr (.tookRecord ((s.env.setAgenda rest).gotRecord r.words) r rs hf rfl)
  | tookBlock b rest ha hp => exact .inr (.moved ((s.env.setAgenda rest).gotBlock b) _ (by rw [hp]; nofun) nofun)
  | offered b rest ha => exact .inr (.host _)
  | withdrew rest ha => exact .inr (.host _)
  | host x ho hx => exact .inr (.host x)

end Sys2Proof.Machine
end

section
/-! SUPPORT. The writers of each register, component by component. -/

namespace Sys2Proof.Machine

/-- The next step evaluates some window of SCAN. -/
def State.scans (s : State) : Prop := ∃ a, s.scansWindow a

/-- The next step performs an operation that writes MATCH: CORR, SLICE or PMATCH, host-issued or in SCAN (R27). -/
def State.compares (s : State) : Prop :=
  (∃ a, s.performs (.corr a)) ∨ s.performs .slice ∨ s.performs .pmatch ∨ s.scans

section Writers

variable {s t u : State}

/-- CORR writes SB and CAND_OFFSET together, and only for a window that fits (R123, R124). -/
theorem State.corr_sb_candOffset {a : Nat} (hsb : t.sb = (s.corr a).sb) (hc : t.candOffset = (s.corr a).candOffset) :
    (t.sb = s.sb ∧ t.candOffset = s.candOffset) ∨
      (a + 97 * s.params.p ≤ s.ls ∧ t.sb = s.softBits a ∧ t.candOffset = BitVec.ofNat 28 a) := by
  rcases s.corr_cases a with ⟨-, e⟩ | ⟨hfit, e⟩ <;> rw [hsb, hc, e]
  · exact .inl ⟨rfl, rfl⟩
  · exact .inr ⟨hfit, rfl, rfl⟩

/-- CORR sets no error flag but RANGE_ERR, and clears none (R124). -/
theorem State.corr_errors {a : Nat} (h : t.errors = (s.corr a).errors) :
    t.errors = s.errors ∨ t.errors = s.errors.set .rangeErr := by
  rcases s.corr_cases a with ⟨-, e⟩ | ⟨-, e⟩ <;> rw [h, e]
  · exact .inr rfl
  · exact .inl rfl

/-- CORR leaves LOWCONF alone (R124). -/
@[simp] theorem State.corr_lowConf (s : State) (a : Nat) : (s.corr a).flags.lowConf = s.flags.lowConf := by
  rcases s.corr_cases a with ⟨-, e⟩ | ⟨-, e⟩ <;> rw [e] <;> rfl

/-- After SLICE, BV holds the signs of SB (R140). -/
theorem State.slice_signs (hbv : t.bv = u.slice.bv) (hsb : t.sb = u.sb) : ∀ n < 96, t.BV n = decide (0 < t.SB n) := by
  intro n hn
  rw [State.BV, State.SB, hbv, hsb]
  exact tabulate_getD 96 _ _ hn

/-- What an evaluation leaves in BV and LOWCONF (R124, R140, R150). -/
@[simp] theorem State.evaluate_bv_slice (s : State) (a : Nat) : (s.evaluate a).bv = (s.corr a).slice.bv :=
  State.pmatch_bv _

@[simp] theorem State.evaluate_lowConf (s : State) (a : Nat) : (s.evaluate a).flags.lowConf = s.flags.lowConf :=
  s.corr_lowConf a

/-- DECODE writes the field registers and LOWCONF together, and only when it accepts (R184, R187). -/
theorem State.decodeFrame_fields_lowConf (s : State) :
    (s.decodeFrame.fields = s.fields ∧ s.decodeFrame.flags.lowConf = s.flags.lowConf) ∨
      (s.decodeFrame.flags.decOk = true ∧ s.decodeFrame.flags.matched = true ∧ s.decodeFrame.fields = s.extracted ∧
        s.decodeFrame.flags.lowConf = decide (s.params.verifyMode = .disabled)) := by
  obtain ⟨x, hx⟩ := s.consult_eq
  rcases s.decodeFrame_cases with ⟨-, e⟩ | ⟨-, -, e⟩ | ⟨hm, -, e⟩ <;> rw [e]
  · exact .inl ⟨rfl, rfl⟩
  · rw [hx]; exact .inl ⟨rfl, rfl⟩
  · exact .inr ⟨rfl, hm, rfl, rfl⟩

/-- The fields a DECODE extracts are those of BV and the build (R183, R186). -/
theorem State.extracted_congr {s t : State} (hbv : t.bv = s.bv) (hb : t.build = s.build) : t.extracted = s.extracted := by
  simp only [State.extracted, State.dc, State.payload, State.BV, State.bits, State.params, hbv, hb]

/-- No step changes the build (R5, R21). -/
theorem Acted.build_eq (h : Acted s t) : t.build = s.build := by
  cases h <;> simp

/-- SB and CAND_OFFSET change together, by a CORR of a window that fits (R23, R26). -/
theorem Acted.sb_candOffset (h : Acted s t) : (t.sb = s.sb ∧ t.candOffset = s.candOffset) ∨
    ∃ a, (s.performs (.corr a) ∨ s.scansWindow a) ∧ a + 97 * s.params.p ≤ s.ls ∧ t.sb = s.softBits a ∧
      t.candOffset = BitVec.ofNat 28 a := by
  cases h with
  | correlated x a h => exact (State.corr_sb_candOffset (by simp) (by simp)).imp id fun hc => ⟨a, .inl h, hc⟩
  | missed x a y h => exact (State.corr_sb_candOffset (by simp) (by simp)).imp id fun hc => ⟨a, .inr h, hc⟩
  | matched x a y h => exact (State.corr_sb_candOffset (by simp) (by simp)).imp id fun hc => ⟨a, .inr h, hc⟩
  | decoded x h => simp
  | _ => exact .inl ⟨rfl, rfl⟩

/-- BV changes by SLICE (R24). -/
theorem Acted.bv (h : Acted s t) :
    t.bv = s.bv ∨ ((s.performs .slice ∨ s.scans) ∧ ∀ n < 96, t.BV n = decide (0 < t.SB n)) := by
  cases h with
  | sliced x h => exact .inr ⟨.inl h, State.slice_signs (u := s) (by simp) (by simp)⟩
  | missed x a y h => exact .inr ⟨.inr ⟨a, h⟩, State.slice_signs (u := s.corr a) (by simp) (by simp)⟩
  | matched x a y h => exact .inr ⟨.inr ⟨a, h⟩, State.slice_signs (u := s.corr a) (by simp) (by simp)⟩
  | correlated x a h => simp
  | decoded x h => simp
  | _ => exact .inl rfl

/-- Who writes MATCH, VREJ and DEC_OK: CORR, SLICE and PMATCH all three, DECODE all but MATCH, EMIT DEC_OK alone (R27). -/
theorem Acted.flags_writers (h : Acted s t) :
    s.compares ∨ (s.performs .decode ∧ t.flags.matched = s.flags.matched) ∨ (s.emits ∧ t.flags = s.flags.emitted) ∨
      t.flags = s.flags := by
  cases h with
  | correlated x a h => exact .inl (.inl ⟨a, h⟩)
  | sliced x h => exact .inl (.inr (.inl h))
  | compared x h => exact .inl (.inr (.inr (.inl h)))
  | missed x a y h => exact .inl (.inr (.inr (.inr ⟨a, h⟩)))
  | matched x a y h => exact .inl (.inr (.inr (.inr ⟨a, h⟩)))
  | decoded x h => exact .inr (.inl ⟨h, State.decodeFrame_matched _⟩)
  | sent x y h => exact .inr (.inr (.inl ⟨h, rfl⟩))
  | _ => exact .inr (.inr (.inr rfl))

theorem Acted.flags_matched (h : Acted s t) : t.flags.matched = s.flags.matched ∨ s.compares := by
  rcases h.flags_writers with hc | ⟨-, e⟩ | ⟨-, e⟩ | e
  · exact .inr hc
  · exact .inl e
  · exact .inl (by rw [e]; rfl)
  · exact .inl (by rw [e])

theorem Acted.flags_vRej (h : Acted s t) : t.flags.vRej = s.flags.vRej ∨ s.compares ∨ s.performs .decode := by
  rcases h.flags_writers with hc | ⟨hd, -⟩ | ⟨-, e⟩ | e
  · exact .inr (.inl hc)
  · exact .inr (.inr hd)
  · exact .inl (by rw [e]; rfl)
  · exact .inl (by rw [e])

theorem Acted.flags_decOk (h : Acted s t) :
    t.flags.decOk = s.flags.decOk ∨ s.compares ∨ s.performs .decode ∨ s.emits := by
  rcases h.flags_writers with hc | ⟨hd, -⟩ | ⟨he, -⟩ | e
  · exact .inr (.inl hc)
  · exact .inr (.inr (.inl hd))
  · exact .inr (.inr (.inr he))
  · exact .inl (by rw [e])

/-- The field registers and LOWCONF change by a DECODE that accepts (R25, R27). -/
theorem Acted.fields_lowConf (h : Acted s t) : (t.fields = s.fields ∧ t.flags.lowConf = s.flags.lowConf) ∨
    ((s.performs .decode ∨ s.scans) ∧ t.flags.decOk = true ∧ t.flags.matched = true ∧ t.fields = t.extracted ∧
      t.flags.lowConf = decide (s.params.verifyMode = .disabled)) := by
  have decoding (u : State) : u.decodeFrame.extracted = u.extracted :=
    State.extracted_congr u.decodeFrame_bv u.decodeFrame_build
  cases h with
  | decoded x h =>
    rcases (s.setEnv x).decodeFrame_fields_lowConf with ⟨hf, hl⟩ | ⟨hd, hm, hf, hl⟩
    · exact .inl ⟨hf, hl⟩
    · exact .inr ⟨.inl h, hd, hm, hf.trans (decoding _).symm, hl⟩
  | matched x a y h =>
    rcases ((s.evaluate a).setEnv x).decodeFrame_fields_lowConf with ⟨hf, hl⟩ | ⟨hd, hm, hf, hl⟩
    · exact .inl ⟨by simpa using hf, by simpa using hl⟩
    · exact .inr ⟨.inr ⟨a, h⟩, hd, hm, hf.trans (decoding _).symm, by simpa using hl⟩
  | missed | correlated => simp
  | _ => exact .inl ⟨rfl, rfl⟩

/-- The buffer changes by a PUSH's append, by CLEAR and at the end of a scan (R64, R66). -/
theorem Acted.buffer (h : Acted s t) : (t.mem = s.mem ∧ t.accLen = s.accLen) ∨
    ((s.performs .clear ∨ (s.engineTurn ∧ ∃ u, s.phase = .scanOuter u)) ∧ t.mem = [] ∧ t.accLen = 0) ∨
    (s.engineTurn ∧ (∃ b, s.phase = .passTaken b) ∧ t.accLen = s.accLen + s.params.blockSize) := by
  cases h with
  | appended x b y ht h => exact .inr (.inr ⟨ht, ⟨b, h⟩, rfl⟩)
  | emptied x h => exact .inr (.inl ⟨h, rfl, rfl⟩)
  | correlated | decoded | missed | matched => simp
  | _ => exact .inl ⟨rfl, rfl⟩

/-- USER_PARAM changes by the host's write (R30). -/
theorem Acted.userParam (h : Acted s t) :
    t.userParam = s.userParam ∨ ∃ v rest, s.accesses 0x10 (.write 4 v) rest ∧ t.userParam = v := by
  cases h with
  | wroteParam x v rest h => exact .inr ⟨v, rest, h, rfl⟩
  | correlated | decoded | missed | matched => simp
  | _ => exact .inl rfl

/-- SB_SEL changes by the host's write, of its low 7 bits (R31). -/
theorem Acted.sbSel (h : Acted s t) :
    t.sbSel = s.sbSel ∨ ∃ v rest, s.accesses 0x20 (.write 4 v) rest ∧ t.sbSel.toNat = v.toNat % 128 := by
  cases h with
  | wroteSel x v rest h => exact .inr ⟨v, rest, h, BitVec.toNat_setWidth 7 v⟩
  | correlated | decoded | missed | matched => simp
  | _ => exact .inl rfl

/-- What a step that is no reset does to the error flags: it sets some, and only a W1C write clears one (R245). -/
theorem Acted.errors (h : Acted s t) : t.errors = s.errors ∨ (∃ e, t.errors = s.errors.set e) ∨
    ∃ v rest, s.accesses 0x04 (.write 4 v) rest ∧ t.errors = s.errors.ack v := by
  cases h with
  | raised x e => exact .inr (.inl ⟨e, rfl⟩)
  | halted x => exact .inr (.inl ⟨.blockErr, rfl⟩)
  | acked x v rest h => exact .inr (.inr ⟨v, rest, h, rfl⟩)
  | correlated x a => exact (State.corr_errors (a := a) (by simp)).imp id fun e => .inl ⟨.rangeErr, e⟩
  | missed x a => exact (State.corr_errors (a := a) (by simp)).imp id fun e => .inl ⟨.rangeErr, e⟩
  | matched x a => exact (State.corr_errors (a := a) (by simp)).imp id fun e => .inl ⟨.rangeErr, e⟩
  | decoded => simp
  | _ => exact .inl rfl

end Writers

/-! ### The rules over all steps -/

/-- Settles O52: each register's own lemma, from the cases of `step_acted`. -/
theorem registersHaveTheirWriters : Obligations.RegistersHaveTheirWriters := by
  intro s t h
  rcases step_acted h with ⟨hr, e⟩ | ha
  · exact ⟨by rw [e]; rfl, .inl ⟨hr, e⟩⟩
  · exact ⟨ha.build_eq, .inr ⟨ha.sb_candOffset, ha.bv, ha.flags_matched, ha.flags_vRej, ha.flags_decOk, ha.fields_lowConf,
      ha.buffer, ha.userParam, ha.sbSel⟩⟩

/-- Settles O54: a step sets flags or, by the host's W1C write, clears those it names; BLOCK_ERR is none of them. -/
theorem errorsStayUntilCleared : Obligations.ErrorsStayUntilCleared := by
  intro s t h
  refine (step_acted h).imp id fun ha => ?_
  rcases ha.errors with e | ⟨f, e⟩ | ⟨v, rest, hv, e⟩ <;> rw [e]
  · exact ⟨.inl, .inl, .inl, id⟩
  · cases f <;> simp +contextual [ErrorFlags.set]
  · have acked (b : Bool) (i : Nat) (hb : b = true) : (b && !v.getLsbD i) = true ∨
        ∃ (v : Word) (rest : List Event), v.getLsbD i = true ∧ s.accesses 0x04 (.write 4 v) rest := by
      cases hi : v.getLsbD i
      · exact .inl (by simp [hb])
      · exact .inr ⟨v, rest, hi, hv⟩
    exact ⟨acked _ 8, acked _ 9, acked _ 10, id⟩

/-- Settles O30: records leave at the head, by the host's take, and come at the tail, by EMIT. -/
theorem fifoMoves : Obligations.FifoMoves := by
  intro s t h
  rcases step_acted h with ⟨-, e⟩ | ha
  · exact .inr (.inr (.inr ⟨by rw [e]; rfl, e⟩))
  · cases ha with
    | tookRecord x r rs hf hx => exact .inr (.inl ⟨r, hf, hx⟩)
    | sent x y _ hd hr => exact .inr (.inr (.inl ⟨hd, hr, rfl, rfl⟩))
    | correlated | decoded | missed | matched => simp
    | _ => exact .inl rfl

end Sys2Proof.Machine
end

section
/-! SUPPORT. The invariants: the range of a soft bit (R126), what every operation keeps, and what holds after reset. -/

namespace Sys2Proof.Machine

/-! ### The range of a soft bit -/

/-- The square of a sample component is at most 255² (R14, R61). -/
theorem square_le_of_byte (b : Byte) {bias : Nat} (h : bias ≤ 255) : ((b.toNat : Int) - bias) * (b.toNat - bias) ≤ 65025 := by
  have := b.isLt
  nlinarith [mul_nonneg (show (0 : Int) ≤ 255 - (b.toNat - bias) by omega) (show (0 : Int) ≤ 255 + (b.toNat - bias) by omega)]

/-- A power is at most 2 · 255² (R120). -/
theorem State.power_le (s : State) (k : Nat) : s.power k ≤ 130050 := by
  have h : s.params.bias ≤ 255 := s.build.bias_le
  have hi := square_le_of_byte (s.raw (2 * k)) h
  have hq := square_le_of_byte (s.raw (2 * k + 1)) h
  simp only [State.power, State.sample]
  omega

/-- The cumulative energy grows by the next sample's power (R122). -/
theorem State.energy_succ (s : State) (a k : Nat) : s.energy a (k + 1) = s.energy a k + s.power (a + (k + 1)) :=
  Finset.sum_range_succ ..

/-- Over d samples the cumulative energy grows by 0 to 130050 · d. -/
theorem State.energy_add_bounds (s : State) (a k d : Nat) :
    s.energy a k ≤ s.energy a (k + d) ∧ s.energy a (k + d) ≤ s.energy a k + 130050 * d := by
  induction d with
  | zero => simp
  | succ d ih =>
    have h0 := s.power_nonneg (a + (k + d + 1))
    have h1 := s.power_le (a + (k + d + 1))
    rw [← Nat.add_assoc, s.energy_succ]
    push_cast
    omega

/-- |SB[n]| ≤ 130050 × (P − H): each half of a slot counts with one sign (R126). -/
theorem State.abs_softBits_le (s : State) (a : Nat) {n : Nat} (hn : n < 96) :
    |(s.softBits a).toList.getD n 0| ≤ 130050 * ((s.params.p - s.params.half : Nat) : Int) := by
  have hh : s.params.half = s.params.p / 2 := rfl
  have first := s.energy_add_bounds a (n * s.params.p) s.params.half
  have second := s.energy_add_bounds a (n * s.params.p + s.params.half) (s.params.p - s.params.half)
  rw [show n * s.params.p + s.params.half + (s.params.p - s.params.half) = n * s.params.p + s.params.p by omega] at second
  rw [s.softBits_getD a hn, abs_le]
  omega

/-- A soft bit fits a signed 32-bit register, in every build (R126). -/
theorem State.softBits_range (s : State) (a : Nat) {n : Nat} (hn : n < 96) :
    -2 ^ 31 ≤ (s.softBits a).toList.getD n 0 ∧ (s.softBits a).toList.getD n 0 < 2 ^ 31 := by
  have hp : s.params.p ≤ 32768 := s.build.p_le
  have hh : s.params.half = s.params.p / 2 := rfl
  have h := abs_le.mp (s.abs_softBits_le a hn)
  omega

/-! ### The invariants after reset -/

/-- The soft bits are in range after reset. -/
theorem State.softBitInv_resetWith (b : Build) : (State.resetWith b).SoftBitInv := fun n hn => by
  rw [State.SB_resetWith b hn]; decide

/-- The result invariant holds after reset. -/
theorem State.resultInv_resetWith (b : Build) : (State.resetWith b).ResultInv where
  matched_preamble := nofun
  decOk_matched := nofun
  vRej_matched := nofun
  vRej_verifier := nofun
  notBoth := nofun
  decOk_fields := nofun
  decOk_lowConf := nofun
  lowConf_disabled := nofun
  depth := Nat.zero_le _
  records := nofun

/-- The buffer invariant holds after reset. -/
theorem State.bufferInv_resetWith (b : Build) : (State.resetWith b).BufferInv where
  dense := rfl
  wholeBlocks := Nat.zero_mod _
  withinCap := Nat.zero_le _
  belowThreshold := fun _ => Nat.zero_le _
  heldBlock := nofun

/-- BLOCK_ERR is clear and MODE is ACCUM after reset. -/
theorem State.haltInv_resetWith (b : Build) : (State.resetWith b).HaltInv := by
  simp [State.HaltInv, State.mode, Phase.mode]

section Kept

variable {s t : State}

/-! ### The result invariant -/

/-- The result invariant reads the build, BV, the field registers, the flags and the FIFO only. -/
theorem State.ResultInv.congr (hs : s.ResultInv) (hb : t.build = s.build) (hbv : t.bv = s.bv) (hf : t.fields = s.fields)
    (hfl : t.flags = s.flags) (hfifo : t.fifo = s.fifo) : t.ResultInv where
  matched_preamble := by simpa only [State.BV, State.params, hb, hbv, hfl] using hs.matched_preamble
  decOk_matched := by simpa only [hfl] using hs.decOk_matched
  vRej_matched := by simpa only [hfl] using hs.vRej_matched
  vRej_verifier := by simpa only [hfl, State.params, hb] using hs.vRej_verifier
  notBoth := by simpa only [hfl] using hs.notBoth
  decOk_fields := by simpa only [hfl, hf, State.extracted_congr hbv hb] using hs.decOk_fields
  decOk_lowConf := by simpa only [hfl, State.params, hb] using hs.decOk_lowConf
  lowConf_disabled := by simpa only [hfl, State.params, hb] using hs.lowConf_disabled
  depth := by simpa only [hfifo, State.params, hb] using hs.depth
  records := by simpa only [hfifo, State.params, hb] using hs.records

/-- With nothing decoded, the flags speak of BV's preamble only. -/
theorem State.ResultInv.of_undecoded (hs : s.ResultInv) (hb : t.build = s.build) (hd : t.flags.decOk = false)
    (hv : t.flags.vRej = false) (hl : t.flags.lowConf = s.flags.lowConf)
    (hm : t.flags.matched = true → ∀ i < 21, t.BV i = t.params.preamble.toList.getD i false)
    (hdepth : t.fifo.length ≤ t.params.recDepth)
    (hrec : ∀ r ∈ t.fifo, r.lowConf = decide (t.params.verifyMode = .disabled)) : t.ResultInv where
  matched_preamble := hm
  decOk_matched h := by simp [hd] at h
  vRej_matched h := by simp [hv] at h
  vRej_verifier h := by simp [hv] at h
  notBoth h := by simp [hd] at h
  decOk_fields h := by simp [hd] at h
  decOk_lowConf h := by simp [hd] at h
  lowConf_disabled := by simpa only [hl, State.params, hb] using hs.lowConf_disabled
  depth := hdepth
  records := hrec

/-- The host's side and the phase are none of what it reads. -/
theorem State.ResultInv.setEnv (hs : s.ResultInv) (x : Env) : (s.setEnv x).ResultInv := hs.congr rfl rfl rfl rfl rfl

theorem State.ResultInv.setPhase (hs : s.ResultInv) (y : Phase) : (s.setPhase y).ResultInv := hs.congr rfl rfl rfl rfl rfl

/-- CORR, SLICE, PMATCH, DECODE and EMIT keep the invariant (R124, R140, R150, R184, R190). -/
theorem State.ResultInv.corr (hs : s.ResultInv) (a : Nat) : (s.corr a).ResultInv := by
  rcases s.corr_cases a with ⟨-, e⟩ | ⟨-, e⟩ <;> rw [e]
  · exact hs.congr rfl rfl rfl rfl rfl
  · exact hs.of_undecoded rfl rfl rfl rfl nofun hs.depth hs.records

theorem State.ResultInv.slice (hs : s.ResultInv) : s.slice.ResultInv :=
  hs.of_undecoded rfl rfl rfl rfl nofun hs.depth hs.records

theorem State.ResultInv.pmatch (hs : s.ResultInv) : s.pmatch.ResultInv :=
  hs.of_undecoded rfl rfl rfl rfl s.preambleMatch_iff.mp hs.depth hs.records

theorem State.ResultInv.evaluate (hs : s.ResultInv) (a : Nat) : (s.evaluate a).ResultInv := (hs.corr a).slice.pmatch

theorem State.ResultInv.decodeFrame (hs : s.ResultInv) : s.decodeFrame.ResultInv := by
  obtain ⟨x, hx⟩ := s.consult_eq
  rcases s.decodeFrame_cases with ⟨-, e⟩ | ⟨hm, hv, e⟩ | ⟨hm, -, e⟩ <;> rw [e]
  · exact hs.of_undecoded rfl rfl rfl rfl hs.matched_preamble hs.depth hs.records
  · rw [hx]
    exact {
      matched_preamble := hs.matched_preamble
      decOk_matched := nofun
      vRej_matched := fun _ => hm
      vRej_verifier := fun _ => State.verdict_false hv
      notBoth := nofun
      decOk_fields := nofun
      decOk_lowConf := nofun
      lowConf_disabled := hs.lowConf_disabled
      depth := hs.depth
      records := hs.records }
  · rw [hx]
    generalize hf : s.extracted = f
    exact {
      matched_preamble := hs.matched_preamble
      decOk_matched := fun _ => hm
      vRej_matched := nofun
      vRej_verifier := nofun
      notBoth := nofun
      decOk_fields := by simp [hf]
      decOk_lowConf := fun _ => rfl
      lowConf_disabled := of_decide_eq_true
      depth := hs.depth
      records := hs.records }

theorem State.ResultInv.sendRecord (hs : s.ResultInv) (hd : s.flags.decOk = true)
    (hr : s.fifo.length < s.params.recDepth) : s.sendRecord.ResultInv := by
  refine hs.of_undecoded rfl rfl ?_ rfl hs.matched_preamble ?_ ?_
  · exact Bool.eq_false_iff.mpr fun hv => hs.notBoth ⟨hd, hv⟩
  · rw [State.sendRecord_eq, State.setFlags_fifo, State.setFifo_fifo, List.length_append]
    exact hr
  · intro r hmem
    rcases List.mem_append.mp hmem with h | h
    · exact hs.records r h
    · rw [List.mem_singleton.mp h]
      exact hs.decOk_lowConf hd

/-- Every step but a reset keeps the result invariant. -/
theorem State.ResultInv.acted (hs : s.ResultInv) (h : Acted s t) : t.ResultInv := by
  cases h with
  | tookRecord x r rs hf =>
    have hdepth := hs.depth
    have hrec := hs.records
    rw [hf] at hdepth hrec
    exact { (hs.setEnv x) with
      depth := (Nat.le_succ _).trans hdepth
      records := fun q hq => hrec q (List.mem_cons_of_mem _ hq) }
  | correlated x a => exact ((hs.corr a).setEnv x).setPhase _
  | sliced x => exact (hs.slice.setEnv x).setPhase _
  | compared x => exact (hs.pmatch.setEnv x).setPhase _
  | decoded x => exact (hs.setEnv x).decodeFrame.setPhase _
  | missed x a => exact ((hs.evaluate a).setEnv x).setPhase _
  | matched x a => exact ((hs.evaluate a).setEnv x).decodeFrame.setPhase _
  | sent x y _ hd hr => exact ((hs.sendRecord hd hr).setEnv x).setPhase _
  | _ => exact hs.congr rfl rfl rfl rfl rfl

/-! ### HALTED and BLOCK_ERR -/

/-- Between phases other than HALTED, BLOCK_ERR staying, the invariant is kept. -/
theorem State.HaltInv.of_live (hs : s.HaltInv) (hp : s.phase ≠ .halted) (hp' : t.phase ≠ .halted)
    (he : t.errors.blockErr = s.errors.blockErr) : t.HaltInv := by
  simp only [State.HaltInv, State.mode, Phase.mode_eq_halted, he, hp'] at hs ⊢
  exact hs.trans (iff_false_intro hp)

/-- CORR leaves BLOCK_ERR alone (R124). -/
@[simp] theorem State.corr_blockErr (s : State) (a : Nat) : (s.corr a).errors.blockErr = s.errors.blockErr := by
  rcases State.corr_errors (s := s) (a := a) rfl with e | e
  · rw [e]
  · rw [e]; rfl

/-- Every step but a reset keeps BLOCK_ERR with HALTED (R244, R245). -/
theorem State.HaltInv.acted (hs : s.HaltInv) (h : Acted s t) : t.HaltInv := by
  cases h with
  | raised x e he => rcases he with rfl | rfl <;> exact hs
  | moved x y h hy => exact hs.of_live h hy rfl
  | halted x => exact iff_of_true rfl rfl
  | appended x b y _ h hy => exact hs.of_live (by rw [h]; nofun) hy rfl
  | emptied x h =>
    refine hs.of_live ?_ nofun rfl
    rcases h with h | ⟨-, u, h⟩
    · exact State.performs_not_halted h
    · rw [h]; nofun
  | correlated x a h => exact hs.of_live (State.performs_not_halted h) nofun (by simp)
  | sliced x h => exact hs.of_live (State.performs_not_halted h) nofun rfl
  | compared x h => exact hs.of_live (State.performs_not_halted h) nofun rfl
  | decoded x h => exact hs.of_live (State.performs_not_halted h) nofun (by simp)
  | missed x a y h hy => exact hs.of_live (State.scansWindow_not_halted h) hy (by simp)
  | matched x a y h hy => exact hs.of_live (State.scansWindow_not_halted h) hy (by simp)
  | sent x y h _ _ hy => exact hs.of_live (State.emits_not_halted h) hy rfl
  | _ => exact hs

/-! ### The scan's cursors -/

/-- The scan invariant reads the build, the phase, the buffer, BV, CAND_OFFSET and the flags only. -/
theorem State.ScanInv.congr (hs : s.ScanInv) (hb : t.build = s.build) (hp : t.phase = s.phase) (hm : t.mem = s.mem)
    (ha : t.accLen = s.accLen) (hbv : t.bv = s.bv) (hc : t.candOffset = s.candOffset) (hfl : t.flags = s.flags) :
    t.ScanInv := by
  simpa only [State.ScanInv, State.ls, State.params, State.BV, State.softBits_congr hm hb, hb, hp, ha, hbv, hc, hfl] using hs

/-- In ACCUM the scan invariant asks nothing. -/
theorem State.scanInv_of_accum (h : s.phase = .accum) : s.ScanInv := by
  simp only [State.ScanInv, h]

/-- A sub-buffer drawn by the outer loop is inside the buffer (R157). -/
theorem State.scanInv_outer (s : State) (u : Nat) : (s.scanOuterMove u).ScanInv := by
  rcases s.scanOuterMove_cases u with ⟨hu, e⟩ | ⟨-, e⟩ <;> rw [e]
  · refine ⟨Nat.min_le_left _ _, ?_⟩
    simp only [State.ls_setPhase]
    omega
  · trivial

/-- DECODE leaves BV alone (R184). -/
theorem State.decodeFrame_BV (s : State) (n : Nat) : s.decodeFrame.BV n = s.BV n := by
  simp only [State.BV, State.decodeFrame_bv]

/-- An inner move keeps the cursors; a match leaves the window it found in CAND_OFFSET and BV (R158, R160, R188). -/
theorem State.ScanInv.inner {u lsub o : Nat} (hs : s.ScanInv) (hp : s.phase = .scanInner u lsub o) :
    (s.scanInnerMove u lsub o).ScanInv := by
  obtain ⟨hsub, hls⟩ : lsub ≤ s.params.subLen ∧ u + lsub ≤ s.ls := by simpa only [State.ScanInv, hp] using hs
  rcases s.scanInnerMove_cases u lsub o with ⟨hw, hm, e⟩ | ⟨-, -, e⟩ | ⟨-, e⟩ <;> rw [e]
  · have hfit : u + o + s.params.win ≤ s.ls := by omega
    refine ⟨?_, ?_, ?_, ?_, ?_, fun n hn => ?_⟩
    · simpa using hsub
    · simpa using hls
    · simpa using hw
    · simpa using hm
    · simpa using s.evaluate_candOffset hfit
    · have hsb : (s.evaluate (u + o)).decodeFrame.softBits (u + o) = s.softBits (u + o) :=
        State.softBits_congr (by simp) (by simp) _
      rw [State.BV_setPhase, State.softBits_setPhase, hsb, State.decodeFrame_BV, s.evaluate_BV hfit hn]
  · refine ⟨?_, ?_⟩
    · simpa using hsub
    · simpa using hls
  · trivial

/-- The EMIT of a scan keeps the cursors (R159, R190). -/
theorem State.ScanInv.sent {u lsub o : Nat} (hs : s.ScanInv) (hp : s.phase = .scanEmit u lsub o) :
    (s.scanEmitMove u lsub o).ScanInv := by
  obtain ⟨hsub, hls, -⟩ : lsub ≤ s.params.subLen ∧ u + lsub ≤ s.ls ∧ _ := by simpa only [State.ScanInv, hp] using hs
  rcases s.emitThen_cases (.scanEmit u lsub o) (.scanInner u lsub (o + s.params.span)) with ⟨-, e⟩ | ⟨-, -, e⟩ | ⟨-, -, e⟩ <;>
    rw [State.scanEmitMove, e]
  · exact ⟨hsub, hls⟩
  · exact ⟨hsub, hls⟩
  · rwa [State.setPhase_of_phase hp]

/-- Every change keeps the scan invariant. -/
theorem State.ScanInv.did (hs : s.ScanInv) (h : Did s t) : t.ScanInv := by
  cases h with
  | correlated _ a => exact State.scanInv_of_accum (by simp)
  | decoded => exact State.scanInv_of_accum (by simp)
  | emitted =>
    rcases s.emitThen_cases .emitHold .accum with ⟨-, e⟩ | ⟨-, -, e⟩ | ⟨hd, -, e⟩ <;> rw [e]
    · trivial
    · trivial
    · exact hd
  | tookBlock _ b => rcases s.acceptBlock_cases b with ⟨-, e⟩ | ⟨-, e⟩ <;> rw [e] <;> trivial
  | pushed b => rcases s.finishPush_cases b with ⟨-, e⟩ | ⟨-, e⟩ <;> rw [e] <;> trivial
  | outer u => exact s.scanInv_outer u
  | inner u lsub o hp => exact hs.inner hp
  | sent u lsub o hp => exact hs.sent hp
  | reset | accepted | sliced | compared | started | cleared | finished | passed => trivial
  | _ => exact hs.congr rfl rfl rfl rfl rfl rfl rfl

end Kept

/-! ### The invariants over all steps -/

/-- Settles O57: SB stays, is the file of a window (`State.softBits_range`) or is that of reset. -/
theorem stepKeepsSoftBitRange : Obligations.StepKeepsSoftBitRange := by
  intro s t hs h
  rcases step_acted h with ⟨-, e⟩ | ha
  · rw [e]; exact State.softBitInv_resetWith s.build
  · intro n hn
    rcases ha.sb_candOffset with ⟨e, -⟩ | ⟨a, -, -, e, -⟩ <;> rw [State.SB, e]
    · exact hs n hn
    · exact s.softBits_range a hn

/-- Settles O58, by `State.ResultInv.acted`. -/
theorem stepKeepsResultInvariant : Obligations.StepKeepsResultInvariant := by
  intro s t hs h
  rcases step_acted h with ⟨-, e⟩ | ha
  · rw [e]; exact (State.resultInv_resetWith s.build).setEnv t.env
  · exact hs.acted ha

/-- Settles O59: the halt invariant by `State.HaltInv.acted`, the scan invariant by `State.ScanInv.did`. -/
theorem stepKeepsHaltAndScanInvariants : Obligations.StepKeepsHaltAndScanInvariants := by
  intro s t h
  refine ⟨fun hs => ?_, fun hs => ?_⟩
  · rcases step_acted h with ⟨-, e⟩ | ha
    · rw [e]; exact State.haltInv_resetWith s.build
    · exact hs.acted ha
  · obtain ⟨x, hd, -⟩ := step_did h
    exact (hs.congr rfl rfl rfl rfl rfl rfl rfl : (s.setEnv x).ScanInv).did hd

/-- Settles O60, invariant by invariant. -/
theorem resetHasInvariants : Obligations.ResetHasInvariants := fun b =>
  ⟨{ buffer := State.bufferInv_resetWith b
     softBits := State.softBitInv_resetWith b
     results := State.resultInv_resetWith b
     halt := State.haltInv_resetWith b
     scan := trivial }, Memory.nil_wf⟩

end Sys2Proof.Machine
end

section
/-! SUPPORT. CSR accesses and the registers as words, reset, HALTED, and what USER_PARAM is not read by. -/

namespace Sys2Proof.Machine

/-! ### Accesses -/

/-- A step with an access in the window, by offset or platform address, is that access (R67, R68). -/
theorem step_of_accesses {s : State} {x : Nat} {acc : Access} {rest : List Event} (hx : x < 256)
    (h : s.accesses x acc rest) : step s = (s.setAgenda rest).csrAccess x acc := by
  rcases h with h | h
  · simp only [step, h, State.turn]
  · have hw : windowOffset s.params.csrBase (s.params.csrBase + x) = some x := by
      rw [windowOffset, if_pos ⟨by omega, by omega⟩, Nat.add_sub_cancel_left]
    simp only [step, h, State.turn, hw]

/-- An aligned 32-bit read in the window is served (R67, R233). -/
theorem State.csrAccess_read (s : State) {x : Nat} (hx : x < 256) (h4 : x % 4 = 0) :
    s.csrAccess x (.read 4) = .next (s.csrRead x) := by
  simp [State.csrAccess, aligned32, Nat.not_le.mpr hx, h4]

/-- An aligned 32-bit write in the window is served, and the bus answers (R67, R234). -/
theorem State.csrAccess_write (s : State) {x : Nat} (v : Word) (hx : x < 256) (h4 : x % 4 = 0) :
    s.csrAccess x (.write 4 v) = (s.answer .written).csrWrite x v := by
  simp [State.csrAccess, aligned32, Nat.not_le.mpr hx, h4]

/-- A step that reads an aligned offset of the window. -/
theorem step_of_read {s : State} {x : Nat} {rest : List Event} (hx : x < 256) (h4 : x % 4 = 0)
    (h : s.accesses x (.read 4) rest) : step s = .next ((s.setAgenda rest).csrRead x) := by
  rw [step_of_accesses hx h, State.csrAccess_read _ hx h4]

/-- A step that writes an aligned offset of the window. -/
theorem step_of_write {s : State} {x : Nat} {v : Word} {rest : List Event} (hx : x < 256) (h4 : x % 4 = 0)
    (h : s.accesses x (.write 4 v) rest) : step s = ((s.setAgenda rest).answer .written).csrWrite x v := by
  rw [step_of_accesses hx h, State.csrAccess_write _ v hx h4]

/-- Outside PROC a read answers the word of its offset and does nothing else (R233). -/
theorem State.csrRead_settled (s : State) (x : Nat) (h : s.mode ≠ .proc) : s.csrRead x = s.answer (.value (s.wordAt x)) := by
  unfold State.csrRead State.readValue
  split
  · rfl
  · rfl
  · exact absurd ‹_› h

/-- In PROC a read answers the value it shows, and one free value is used up (R72). -/
theorem State.csrRead_proc (s : State) (x : Nat) (h : s.mode = .proc) :
    s.csrRead x = (s.answer (.value (s.readValue x))).countFreeRead := by
  simp only [State.csrRead, h]

/-- In PROC a read shows the word of its offset, the open bits replaced by a free value (R72). -/
theorem State.readValue_proc (s : State) (x : Nat) (h : s.mode = .proc) :
    s.readValue x = (s.wordAt x &&& ~~~openMaskAt x) ||| (Config.anyRead s.env.freeReads &&& openMaskAt x) := by
  simp only [State.readValue, h]

/-- The word of a register is at its offset (R35 to R49). -/
theorem State.wordAt_offset (s : State) (c : Csr) : s.wordAt c.offset = s.csrWord c := by
  simp [State.wordAt]

/-- Nothing is mapped from 0x48 on (R47, R68). -/
theorem csrAt_unmapped {x : Nat} (h : 0x48 ≤ x) : csrAt x = none := by
  cases hc : csrAt x with
  | none => rfl
  | some c =>
    have := offset_of_csrAt hc
    cases c <;> simp only [Csr.offset] at this <;> omega

/-- Settles O4: a CMD write is an access at 0x08, which dispatches the decoded command (R85). -/
theorem stepRunsWrittenCommand : Obligations.StepRunsWrittenCommand := by
  intro s w i rest h hd
  rw [step_of_write (by decide) (by decide) h, State.csrWrite, show csrAt 0x08 = some .cmd from rfl]
  simp only [State.writeCommand, hd]

/-- The words of the CSR map are ERTCORE's own, whatever the host has done (R35 to R49). -/
@[simp] theorem State.wordAt_setEnv (s : State) (e : Env) (x : Nat) : (s.setEnv e).wordAt x = s.wordAt x := by
  unfold State.wordAt
  split
  · rename_i c _; cases c <;> rfl
  · rfl

/-- Settles O47: the word read is that of the register at the offset. -/
theorem csrReadValues : Obligations.CsrReadValues := by
  intro s x rest hm hx h4 h
  have word (c : Csr) : x = c.offset → s.wordAt x = s.csrWord c := by rintro rfl; exact s.wordAt_offset c
  have narrow (c : Csr) {k : Nat} {b : BitVec k} (hk : k ≤ 32) (hb : s.csrWord c = b.zeroExtend 32) :
      x = c.offset → (s.wordAt x).toNat = b.toNat := fun hc => by rw [word c hc, hb]; exact BitVec.toNat_setWidth_of_le hk
  refine ⟨s.wordAt x, ?_, word .id, word .status, word .cmd, word .accLen, word .userParam, word .bv0, word .bv1, word .bv2,
    narrow .sbSel (by decide) rfl, word .sbData, narrow .meterId (by decide) rfl, narrow .meterType (by decide) rfl,
    narrow .physTamper (by decide) rfl, narrow .encTamper (by decide) rfl, narrow .consumption (by decide) rfl,
    narrow .altId (by decide) rfl, narrow .candOffset (by decide) rfl, word .recLevel, fun hu => ?_⟩
  · rw [step_of_read hx h4 h, State.csrRead_settled (s.setAgenda rest) x hm, State.setAgenda_eq, State.wordAt_setEnv]
    rfl
  · rw [State.wordAt, csrAt_unmapped hu]

/-- The host's plan is no part of what a read shows. -/
theorem State.readValue_setAgenda (s : State) (l : List Event) (x : Nat) : (s.setAgenda l).readValue x = s.readValue x := by
  simp only [State.readValue, State.setAgenda_eq, State.mode_setEnv, State.wordAt_setEnv, State.setEnv_env,
    Env.setAgenda_freeReads]

/-- A read in PROC shows the bits that are not open as they are (R72). -/
theorem State.readValue_getLsbD {s : State} {x i : Nat} (h : s.mode = .proc) (hm : (openMaskAt x).getLsbD i = false) :
    (s.readValue x).getLsbD i = (s.wordAt x).getLsbD i := by
  rw [s.readValue_proc x h, BitVec.getLsbD_or, BitVec.getLsbD_and, BitVec.getLsbD_and, BitVec.getLsbD_not, hm]
  by_cases hi : i < 32
  · simp [hi]
  · simp [BitVec.getLsbD_of_ge (s.wordAt x) i (by omega)]

/-- A read in PROC shows zeros where neither the word nor the open bits reach (R36, R45, R72). -/
theorem State.readValue_lt {s : State} {x k : Nat} (h : s.mode = .proc) (hw : (s.wordAt x).toNat < 2 ^ k)
    (hm : (openMaskAt x).toNat < 2 ^ k) : (s.readValue x).toNat < 2 ^ k := by
  rw [s.readValue_proc x h, BitVec.toNat_or, BitVec.toNat_and, BitVec.toNat_and]
  exact Nat.or_lt_two_pow (Nat.and_le_left.trans_lt hw) (Nat.and_lt_two_pow _ hm)

/-- The open bits of a register are those at its offset (R72). -/
theorem openMaskAt_offset (c : Csr) : openMaskAt c.offset = c.openMask := by simp [openMaskAt]

/-- The open bits of STATUS are MATCH, DEC_OK, LOWCONF and VREJ, bits 2 to 5 (R36, R72). -/
theorem openMask_status {i : Nat} (h : i < 2 ∨ 6 ≤ i) : Csr.status.openMask.getLsbD i = false := by
  rcases h with h | h
  · interval_cases i <;> rfl
  · exact Nat.testBit_lt_two_pow (lt_of_lt_of_le (by decide) (Nat.pow_le_pow_right (by decide) h))

/-- Settles O48: outside the open bits of its offset, a read shows the word as it is. -/
theorem busyReadKeepsSettledBits : Obligations.BusyReadKeepsSettledBits := by
  intro s x rest hm hx h4 h
  have narrow (c : Csr) {k : Nat} {b : BitVec k} (hk : k ≤ 32) (hb : s.csrWord c = b.zeroExtend 32)
      (hmask : c.openMask.toNat < 2 ^ k) (hc : x = c.offset) : (s.readValue x).toNat < 2 ^ k := by
    subst hc
    refine State.readValue_lt hm ?_ (by rwa [openMaskAt_offset])
    rw [State.wordAt_offset, hb]
    exact (BitVec.toNat_setWidth_of_le hk).trans_lt b.isLt
  refine ⟨_, s.readValue x, by rw [step_of_read hx h4 h, State.csrRead_proc (s.setAgenda rest) x hm, State.readValue_setAgenda],
    rfl, rfl, fun hset => ?_, ?_, fun hc => ?_, narrow .meterType (by decide) rfl (by decide), fun hc => ?_,
    narrow .consumption (by decide) rfl (by decide), narrow .candOffset (by decide) rfl (by decide)⟩
  · have hmask : openMaskAt x = 0 := by
      rcases hset with hmem | hu
      · exact (by decide : ∀ x ∈ [0x00, 0x08, 0x0C, 0x10, 0x20, 0x44], openMaskAt x = 0) x hmem
      · rw [openMaskAt, csrAt_unmapped hu]
    exact BitVec.eq_of_getLsbD_eq fun i _ => State.readValue_getLsbD hm (by rw [hmask]; exact BitVec.getLsbD_zero)
  · rintro rfl i hi
    exact State.readValue_getLsbD hm (openMask_status hi)
  · exact hc.elim (narrow .meterId (by decide) rfl (by decide)) (narrow .altId (by decide) rfl (by decide))
  · exact hc.elim (narrow .physTamper (by decide) rfl (by decide)) (narrow .encTamper (by decide) rfl (by decide))

/-- A write elsewhere than to STATUS, CMD, USER_PARAM and SB_SEL is ignored (R234). -/
theorem State.csrWrite_ignored (s : State) {x : Nat} (v : Word) (h : x ∉ [0x04, 0x08, 0x10, 0x20]) :
    s.csrWrite x v = .next s := by
  have unwritten {c : Csr} (hc : csrAt x = some c) (hm : c.offset ∈ [0x04, 0x08, 0x10, 0x20]) : False :=
    h (offset_of_csrAt hc ▸ hm)
  unfold State.csrWrite
  split
  · exact (unwritten ‹_› (by decide)).elim
  · exact (unwritten ‹_› (by decide)).elim
  · exact (unwritten ‹_› (by decide)).elim
  · exact (unwritten ‹_› (by decide)).elim
  · rfl

/-- Settles O50, register by register. -/
theorem csrWriteEffects : Obligations.CsrWriteEffects := by
  intro s x v rest hx h4 h p
  rw [step_of_write hx h4 h]
  refine ⟨?_, ?_, ?_, fun hne => State.csrWrite_ignored _ v hne⟩
  · rintro rfl
    exact ⟨_, rfl, rfl, rfl, rfl, rfl, rfl⟩
  · rintro rfl
    rfl
  · rintro rfl
    exact ⟨_, rfl, BitVec.toNat_setWidth 7 v, rfl⟩

/-! ### The registers as words -/

/-- Bit 0 of a word is the bit appended to it last. -/
theorem getLsbD_append_bit_zero {k : Nat} (x : BitVec k) (b : Bool) : (x ++ BitVec.ofBool b).getLsbD 0 = b :=
  BitVec.getLsbD_concat_zero

/-- The bits above it are those of the word before. -/
theorem getLsbD_append_bit_succ {k : Nat} (x : BitVec k) (b : Bool) (i : Nat) :
    (x ++ BitVec.ofBool b).getLsbD (i + 1) = x.getLsbD i :=
  BitVec.getLsbD_concat_succ

/-- Settles O44, bit by bit. -/
theorem statusBits : Obligations.StatusBits := by
  intro s
  refine ⟨?_, ?_, ?_, ?_, ?_, ?_, ?_, ?_, ?_, ?_, ?_, ?_, fun i hi => ?_⟩
  case refine_13 =>
    obtain ⟨k, rfl⟩ := Nat.exists_eq_add_of_le' hi
    simp only [State.statusWord, getLsbD_append_bit_succ, BitVec.getLsbD_zero]
  all_goals simp only [State.statusWord, getLsbD_append_bit_succ, getLsbD_append_bit_zero, decide_eq_true_eq]

/-- Bit k of val, counted from the least significant, is the k-th element from the end (R11). -/
theorem testBit_val (l : List Bool) (k : Nat) : (val l).testBit k = l.reverse.getD k false := by
  induction l using List.reverseRecOn generalizing k with
  | nil => simp
  | append_singleton l b ih =>
    rw [val_append_bit, List.reverse_append, List.reverse_singleton, List.singleton_append]
    cases k with
    | zero => cases b <;> simp
    | succ k =>
      have := Bool.toNat_le b
      rw [List.getD_cons_succ, ← ih, Nat.testBit_succ, show (2 * val l + b.toNat) / 2 = val l by omega]

/-- Settles O45: 32 elements of BV fill a register, the first one its top bit. -/
theorem bitVectorPacking : Obligations.BitVectorPacking := by
  intro s i b hi hb
  have hlen : (span s.bits (32 * i) (32 * i + 32)).length = 32 := by
    rw [length_span _ (by rw [State.length_bits]; omega)]; omega
  refine ⟨?_, ?_, rfl, rfl, rfl⟩
  · rw [State.bvWord, BitVec.getLsbD_ofNat, testBit_val, List.getD_eq_getElem?_getD, List.getElem?_reverse (by omega), hlen,
      ← List.getD_eq_getElem?_getD, span_getD _ (by omega), show 32 * i + (32 - 1 - (31 - b)) = 32 * i + b by omega]
    rw [decide_eq_true (by omega), Bool.true_and]
    rfl
  · rw [State.bvWord, BitVec.toNat_ofNat]
    have hlt := val_lt (span s.bits (32 * i) (32 * i + 32))
    rw [hlen] at hlt
    exact Nat.mod_eq_of_lt hlt

/-- Past its 96 soft bits the file reads 0 (R44). -/
theorem State.SB_out (s : State) {n : Nat} (h : 96 ≤ n) : s.SB n = 0 := by
  rw [State.SB, List.getD_eq_default _ _ (by simpa using h)]

/-- Settles O46: in its range a soft bit is the value of its 32-bit word. -/
theorem sbDataShowsSelectedSoftBit : Obligations.SbDataShowsSelectedSoftBit := by
  intro s hs
  refine ⟨fun h => ?_, fun h => ?_⟩
  · obtain ⟨hlo, hhi⟩ := hs _ h
    exact BitVec.toInt_ofInt_eq_self (by decide) hlo hhi
  · show BitVec.ofInt 32 (s.SB s.sbSel.toNat) = 0
    rw [s.SB_out h]
    rfl

/-! ### Reset -/

/-- An empty buffer holds nothing anywhere (R66). -/
theorem Memory.read_nil (a : Nat) : Memory.read [] a = none := rfl

/-- Settles O12, register by register. -/
theorem resetValues : Obligations.ResetValues := fun b =>
  ⟨rfl, rfl, Memory.read_nil, rfl, fun _ h => ⟨State.SB_resetWith b h, State.BV_resetWith b h⟩, rfl, rfl, rfl, rfl, rfl, rfl,
    rfl, rfl, rfl, rfl, rfl, rfl⟩

/-- STATUS reads 0 after reset: the FIFO is not full, since REC_DEPTH is at least 1 (R6, R36). -/
theorem State.statusWord_resetWith (b : Build) : (State.resetWith b).statusWord = 0 := by
  have hd : ¬ 0 = b.params.recDepth := by have := b.recDepth_pos; omega
  simp [State.statusWord, State.mode, Phase.mode, State.params, hd]

/-- Settles O11: SRESET answers the reset state of the build, and RST is the same step. -/
theorem sresetResetsEverything : Obligations.SresetResetsEverything := by
  refine ⟨fun s => ⟨s.softReset, rfl, rfl, rfl, Memory.read_nil, rfl, fun _ h => State.SB_resetWith s.build h,
    fun _ h => State.BV_resetWith s.build h, rfl, rfl, rfl, rfl, rfl, rfl, rfl, rfl, rfl, rfl, rfl, rfl, rfl, rfl, rfl, rfl,
    rfl, rfl, State.statusWord_resetWith s.build, rfl, rfl⟩, fun s rest h => ?_⟩
  simp only [step, h, State.turn]
  rfl

/-! ### HALTED -/

/-- A halted engine makes no move (R244). -/
theorem State.engineMove_of_halted {s : State} (h : s.mode = .halted) : s.engineMove = .next s := by
  simp only [State.engineMove, Phase.mode_eq_halted.mp h]

/-- Settles O35: of the turns of `step_turn`, only the host's can be taken in HALTED. -/
theorem haltedUntilReset : Obligations.HaltedUntilReset := by
  refine ⟨fun s => State.engineMove_of_halted, fun s hm ha => ?_, fun s t hm h => ?_⟩
  · simp only [step, ha]
    exact State.engineMove_of_halted hm
  have hp : s.phase = .halted := Phase.mode_eq_halted.mp hm
  cases step_turn h with
  | engine l ht he =>
    rw [State.engineMove_of_halted (s := s.setAgenda l) hm] at he
    injection he with he
    subst he
    exact .inl ⟨hm, rfl, rfl, rfl, rfl, rfl, rfl, rfl, rfl, rfl, rfl, .inl rfl, .inl rfl⟩
  | command w i rest ha hd he =>
    by_cases hi : i = .sreset
    · subst hi
      injection he with he
      subst he
      exact .inr ⟨.inr (.inl ⟨w, rest, .inl ha, hd⟩), rfl⟩
    · have hna : ((s.setAgenda rest).answer .written).phase ≠ .accum := fun hacc => nomatch hp.symm.trans hacc
      rw [exec_of_not_accum hi hna] at he
      injection he with he
      subst he
      exact .inl ⟨hm, rfl, rfl, rfl, rfl, rfl, rfl, rfl, rfl, rfl, rfl, .inl rfl, .inl rfl⟩
  | slow w i rest ha hd hi hacc => exact absurd (hp.symm.trans hacc) nofun
  | refusedCommand w e rest ha he =>
    refine .inl ⟨hm, rfl, rfl, rfl, rfl, rfl, rfl, rfl, ?_, rfl, rfl, .inl rfl, .inl rfl⟩
    rcases he with rfl | rfl <;> rfl
  | reset x hr => exact .inr ⟨hr, rfl⟩
  | status | param | sel => exact .inl ⟨hm, rfl, rfl, rfl, rfl, rfl, rfl, rfl, rfl, rfl, rfl, .inl rfl, .inl rfl⟩
  | tookRecord r rs rest ha hf =>
    exact .inl ⟨hm, rfl, rfl, rfl, rfl, rfl, rfl, rfl, rfl, rfl, rfl, .inr ⟨r, rest, ha, hf, rfl⟩, .inl rfl⟩
  | tookBlock b rest ha hb => exact absurd (hp.symm.trans hb) nofun
  | offered b rest ha =>
    exact .inl ⟨hm, rfl, rfl, rfl, rfl, rfl, rfl, rfl, rfl, rfl, rfl, .inl rfl, .inr (.inl ⟨b, rest, ha, rfl⟩)⟩
  | withdrew rest ha =>
    exact .inl ⟨hm, rfl, rfl, rfl, rfl, rfl, rfl, rfl, rfl, rfl, rfl, .inl rfl, .inr (.inr ⟨rest, ha, rfl⟩)⟩
  | host x ho hx =>
    exact .inl ⟨hm, rfl, rfl, rfl, rfl, rfl, rfl, rfl, rfl, hx.passGot, hx.verCalls, .inl rfl, .inl ho⟩

/-! ### USER_PARAM -/

/-- CORR, DECODE and EMIT do not read USER_PARAM (R30). -/
theorem State.corr_setUserParam (s : State) (v : Word) (a : Nat) :
    (s.setUserParam v).corr a = (s.corr a).setUserParam v := by
  unfold State.corr; rw [State.ls_setUserParam, State.params_setUserParam]; split <;> rfl

theorem State.decodeFrame_setUserParam (s : State) (v : Word) :
    (s.setUserParam v).decodeFrame = s.decodeFrame.setUserParam v := by
  unfold State.decodeFrame State.decodeWith State.consult
  rw [State.verdict_setUserParam, State.params_setUserParam, State.setUserParam_flags]
  cases s.flags.matched <;> cases s.verdict <;> cases s.params.verifyMode <;> rfl

theorem State.emitThen_setUserParam (s : State) (v : Word) (hold done : Phase) :
    (s.setUserParam v).emitThen hold done = (s.emitThen hold done).setUserParam v := by
  unfold State.emitThen
  rw [State.hasRoom_setUserParam, State.setUserParam_flags]
  cases s.flags.decOk <;> cases s.hasRoom <;> rfl

/-- The effect of a command other than SRESET carries USER_PARAM along (R30). -/
theorem effect_setUserParam {i : Instr} (hi : i ≠ .sreset) (s : State) (v : Word) :
    effect i (s.setUserParam v) = (effect i s).setUserParam v := by
  cases i with
  | corr a => exact s.corr_setUserParam v a
  | decode => exact s.decodeFrame_setUserParam v
  | emit => exact s.emitThen_setUserParam v _ _
  | sreset => exact absurd rfl hi
  | _ => rfl

/-- Settles O51: in ACCUM by `effect_setUserParam`; elsewhere the command is refused, which reads nothing. -/
theorem userParamHasNoEffect : Obligations.UserParamHasNoEffect := by
  intro i s t v hi h
  show exec i (s.setUserParam v) = .next (t.setUserParam v)
  by_cases hp : s.phase = .accum
  · rw [exec_of_accum hi hp] at h
    injection h with h
    rw [exec_of_accum (s := s.setUserParam v) hi hp, effect_setUserParam hi, h]
  · rw [exec_of_not_accum hi hp] at h
    injection h with h
    rw [exec_of_not_accum (s := s.setUserParam v) hi hp, ← h]
    rfl

end Sys2Proof.Machine
end

section
/-! SUPPORT. The buffer: what every step keeps of it, a PUSH's append, CLEAR and the samples; and when a step stops. -/

namespace Sys2Proof.Machine

/-! ### The buffer invariant -/

/-- CAP is one block above THRESH (R7). -/
theorem Params.cap_eq_thresh_add (c : Params) : c.cap = c.thresh + c.blockSize := by
  rw [Params.cap, Params.thresh, Nat.succ_mul, Nat.mul_comm]

/-- No PUSH is under way while SCAN is (R210, R278). -/
theorem Phase.block?_of_scanning {y : Phase} (h : y.scanning = true) : y.block? = none := by
  cases y with
  | scanOuter | scanInner | scanEmit => rfl
  | _ => cases h

/-- No SCAN is under way where a command has its effect (R85, R210). -/
theorem Phase.not_scanning_of_command {y : Phase} (h : y = .accum ∨ ∃ i, y = .busy i) : y.scanning = false := by
  rcases h with rfl | ⟨i, rfl⟩ <;> rfl

/-- EMIT ends in the phase it holds in or in the one it goes on to (R190, R277). -/
theorem State.emitThen_phase (s : State) (hold done : Phase) :
    (s.emitThen hold done).phase = hold ∨ (s.emitThen hold done).phase = done := by
  rcases s.emitThen_cases hold done with ⟨-, e⟩ | ⟨-, -, e⟩ | ⟨-, -, e⟩ <;> rw [e]
  · exact .inr rfl
  · exact .inr rfl
  · exact .inl rfl

section Kept

variable {s t : State}

/-- A change that leaves the bytes alone keeps the invariant, if it neither ends a scan nor brings in a block of another
length. -/
theorem State.BufferInv.of_same_buffer (hs : s.BufferInv) (hb : t.build = s.build) (hm : t.mem = s.mem)
    (ha : t.accLen = s.accLen) (hscan : t.phase.scanning = false → s.phase.scanning = false)
    (hheld : ∀ b, t.phase.block? = some b → b.length = s.params.blockSize) : t.BufferInv where
  dense := by rw [hm, ha]; exact hs.dense
  wholeBlocks := by simpa only [State.params, hb, ha] using hs.wholeBlocks
  withinCap := by simpa only [State.params, hb, ha] using hs.withinCap
  belowThreshold := fun h => by simpa only [State.params, hb, ha] using hs.belowThreshold (hscan h)
  heldBlock := by simpa only [State.params, hb] using hheld

/-- The invariant reads the build, the phase and the buffer only. -/
theorem State.BufferInv.congr (hs : s.BufferInv) (hb : t.build = s.build) (hp : t.phase = s.phase) (hm : t.mem = s.mem)
    (ha : t.accLen = s.accLen) : t.BufferInv :=
  hs.of_same_buffer hb hm ha (by rw [hp]; exact id) (by rw [hp]; exact hs.heldBlock)

/-- From outside SCAN the engine may go to any phase without a block. -/
theorem State.BufferInv.of_idle (hs : s.BufferInv) (hb : t.build = s.build) (hm : t.mem = s.mem)
    (ha : t.accLen = s.accLen) (hidle : s.phase.scanning = false) (hp : t.phase.block? = none) : t.BufferInv :=
  hs.of_same_buffer hb hm ha (fun _ => hidle) (by rw [hp]; nofun)

/-- SCAN may start or go on in any buffer (R101, R216). -/
theorem State.BufferInv.of_scanning (hs : s.BufferInv) (hb : t.build = s.build) (hm : t.mem = s.mem)
    (ha : t.accLen = s.accLen) (hp : t.phase.scanning = true) : t.BufferInv :=
  hs.of_same_buffer hb hm ha (by rw [hp]; nofun) (by rw [Phase.block?_of_scanning hp]; nofun)

/-- An empty buffer meets the invariant when no PUSH is under way (R66). -/
theorem State.bufferInv_of_empty (hm : t.mem = []) (ha : t.accLen = 0) (hp : t.phase.block? = none) : t.BufferInv where
  dense := by rw [hm, ha]; rfl
  wholeBlocks := by rw [ha]; exact Nat.zero_mod _
  withinCap := by rw [ha]; exact Nat.zero_le _
  belowThreshold := by rw [ha]; exact fun _ => Nat.zero_le _
  heldBlock := by rw [hp]; nofun

/-- Outside SCAN a block fits above THRESH, so an append keeps the invariant if what exceeds THRESH is scanned (R64, R65,
R101). -/
theorem State.BufferInv.append {b : Block} {y : Phase} (hs : s.BufferInv) (hidle : s.phase.scanning = false)
    (hlen : b.length = s.params.blockSize) (hheld : y.block? = none)
    (hready : y.scanning = false → s.accLen + s.params.blockSize ≤ s.params.thresh) :
    ((s.bufAppend b).setPhase y).BufferInv where
  dense := by
    have hd := Memory.dense_store hs.dense b
    rwa [hlen] at hd
  wholeBlocks := (Nat.add_mod_right _ _).trans hs.wholeBlocks
  withinCap := (Nat.add_le_add_right (hs.belowThreshold hidle) _).trans_eq (Params.cap_eq_thresh_add _).symm
  belowThreshold := hready
  heldBlock := by rw [State.setPhase_phase, hheld]; nofun

/-- The end of a PUSH keeps the invariant (R64, R101). -/
theorem State.BufferInv.finishPush {b : Block} (hs : s.BufferInv) (hp : s.phase = .passTaken b) :
    (s.finishPush b).BufferInv := by
  have hidle : s.phase.scanning = false := by rw [hp]; rfl
  have hlen : b.length = s.params.blockSize := hs.heldBlock b (by rw [hp]; rfl)
  rcases s.finishPush_cases b with ⟨-, e⟩ | ⟨hroom, e⟩ <;> rw [e]
  · exact hs.append hidle hlen rfl nofun
  · exact hs.append hidle hlen rfl fun _ => hroom

/-- Every change keeps the buffer invariant. -/
theorem State.BufferInv.did (hs : s.BufferInv) (h : Did s t) : t.BufferInv := by
  cases h with
  | reset => exact (State.bufferInv_resetWith s.build).congr rfl rfl rfl rfl
  | accepted hp i => exact hs.of_idle rfl rfl rfl (Phase.not_scanning_of_command (.inl hp)) rfl
  | sliced hp | compared hp => exact hs.of_idle rfl rfl rfl (Phase.not_scanning_of_command hp) rfl
  | correlated hp | decoded hp =>
    exact hs.of_idle (by simp) (by simp) (by simp) (Phase.not_scanning_of_command hp) (by simp [Phase.block?])
  | emitted hp =>
    have hidle : s.phase.scanning = false := by
      rcases hp with hp | hp | ⟨i, hp⟩ <;> rw [hp] <;> rfl
    refine hs.of_idle (by simp) (by simp) (by simp) hidle ?_
    rcases s.emitThen_phase .emitHold .accum with e | e <;> rw [e] <;> rfl
  | started => exact hs.of_scanning rfl rfl rfl rfl
  | cleared => exact State.bufferInv_of_empty rfl rfl rfl
  | finished hp => exact hs.of_idle rfl rfl rfl (Phase.not_scanning_of_command (.inr hp)) rfl
  | tookBlock hp b =>
    have hidle := Phase.not_scanning_of_command (.inl hp)
    rcases s.acceptBlock_cases b with ⟨hlen, e⟩ | ⟨-, e⟩ <;> rw [e]
    · exact hs.of_same_buffer rfl rfl rfl (fun _ => hidle) (by rintro c ⟨⟩; exact hlen)
    · exact hs.of_idle rfl rfl rfl hidle rfl
  | passed b hp =>
    exact hs.of_same_buffer rfl rfl rfl (fun _ => by rw [hp]; rfl) fun c hc => hs.heldBlock c (by rw [hp]; exact hc)
  | pushed b hp => exact hs.finishPush hp
  | outer u =>
    rcases s.scanOuterMove_cases u with ⟨-, e⟩ | ⟨-, e⟩ <;> rw [e]
    · exact hs.of_scanning rfl rfl rfl rfl
    · exact State.bufferInv_of_empty rfl rfl rfl
  | inner u lsub o =>
    rcases s.scanInnerMove_cases u lsub o with ⟨-, -, e⟩ | ⟨-, -, e⟩ | ⟨-, e⟩ <;> rw [e] <;>
      exact hs.of_scanning (by simp) (by simp) (by simp) rfl
  | sent u lsub o =>
    refine hs.of_scanning (State.emitThen_build ..) (State.emitThen_mem ..) (State.emitThen_accLen ..) ?_
    rcases s.emitThen_phase (.scanEmit u lsub o) (.scanInner u lsub (o + s.params.span)) with e | e <;>
      rw [State.scanEmitMove, e] <;> rfl
  | _ => exact hs.congr rfl rfl rfl rfl

end Kept

/-- Settles O56, change by change: `State.BufferInv.did`. -/
theorem stepKeepsBufferInvariant : Obligations.StepKeepsBufferInvariant := by
  intro s t hs h
  obtain ⟨x, hd, -⟩ := step_did h
  exact (hs.congr rfl rfl rfl rfl : (s.setEnv x).BufferInv).did hd

/-! ### PUSH and CLEAR -/

/-- The phase a PUSH ends in (R101, R210). -/
theorem State.finishPush_phase (s : State) (b : Block) :
    (s.finishPush b).phase =
      if s.params.blockSize * s.params.nacc < s.accLen + s.params.blockSize then .scanOuter 0 else .accum := by
  rcases s.finishPush_cases b with ⟨h, e⟩ | ⟨h, e⟩ <;> rw [e]
  · exact (if_pos h).symm
  · exact (if_neg (Nat.not_lt.mpr h)).symm

/-- Outside SCAN, one more block exceeds THRESH exactly when NACC blocks are in the buffer (R102). -/
theorem State.BufferInv.ready_iff {s : State} (hs : s.BufferInv) (hidle : s.phase.scanning = false) :
    s.params.blockSize * s.params.nacc < s.accLen + s.params.blockSize ↔ s.accLen = s.params.nacc * s.params.blockSize := by
  have hpos : 0 < s.params.blockSize := Nat.lt_of_lt_of_le (by decide) s.build.four_le_blockSize
  have hle : s.accLen ≤ s.params.blockSize * s.params.nacc := hs.belowThreshold hidle
  obtain ⟨k, hk⟩ := Nat.dvd_of_mod_eq_zero hs.wholeBlocks
  rw [hk] at hle ⊢
  rw [← Nat.mul_succ, Nat.mul_lt_mul_left hpos, Nat.mul_comm s.params.nacc, Nat.mul_right_inj hpos.ne']
  have := Nat.le_of_mul_le_mul_left hle hpos
  omega

/-- Settles O33: the move is `State.finishPush`, its bytes by `Memory.read_store`. -/
theorem pushAppendsBlock : Obligations.PushAppendsBlock := by
  intro s b hs hp ha
  have hready := hs.ready_iff (by rw [hp]; rfl)
  refine ⟨s.finishPush b, by simp only [step, ha, State.engineMove, hp], rfl, fun i hi => ?_, fun x hx => ?_,
    s.finishPush_phase b, ?_, rfl⟩
  · refine (Memory.read_store s.mem s.accLen b _).trans ?_
    rw [if_pos ⟨by omega, by omega⟩, Nat.add_sub_cancel_left]
  · exact (Memory.read_store s.mem s.accLen b x).trans (if_neg (by omega))
  · rw [← hready, s.finishPush_phase b]
    split
    · exact iff_of_true rfl ‹_›
    · exact iff_of_false nofun ‹_›

/-- Settles O10: in ACCUM CLEAR has its effect, `State.bufClear`. -/
theorem clearEmptiesBuffer : Obligations.ClearEmptiesBuffer := fun s h =>
  ⟨s.bufClear, exec_of_accum nofun (Phase.mode_eq_accum.mp h), rfl, Memory.read_nil, rfl⟩

/-! ### Samples -/

/-- raw at an address that holds a byte is that byte (R60). -/
theorem State.raw_of_read {s : State} {a : Nat} {b : Byte} (h : s.mem.read a = some b) : s.raw a = b := by
  rw [State.raw, h, Option.getD_some]

/-- Settles O18, with the bounds of `State.power_nonneg` and `State.power_le`. -/
theorem powerOfBufferBytes : Obligations.PowerOfBufferBytes := by
  intro s k i q hi hq
  have hsample : s.sample k = ((i.toNat : Int) - s.params.bias, (q.toNat : Int) - s.params.bias) := by
    rw [State.sample, State.raw_of_read hi, State.raw_of_read hq]
  refine ⟨hsample, ?_, s.power_nonneg k, s.power_le k⟩
  rw [State.power, hsample, sq, sq]

/-! ### Accesses that are not served -/

/-- A narrow, wide or misaligned access in the window is answered with a bus error (R67). -/
theorem State.csrAccess_busError (s : State) {x n : Nat} {v : Word} {acc : Access} (hx : x < 256) (hn : n ≠ 4 ∨ x % 4 ≠ 0)
    (hacc : acc = .read n ∨ acc = .write n v) : s.csrAccess x acc = .next (s.answer .busError) := by
  have hunaligned : aligned32 x n = false := decide_eq_false (by omega)
  rcases hacc with rfl | rfl <;> simp only [State.csrAccess, Nat.not_le.mpr hx, hunaligned] <;> rfl

/-- An access past the window stops the run. -/
theorem State.csrAccess_outside (s : State) {x : Nat} (acc : Access) (hx : 256 ≤ x) :
    s.csrAccess x acc = .fault .outsideWindow := if_pos hx

/-- A step with an access at a platform address outside the window stops the run (R68). -/
theorem step_of_platform_outside {s : State} {addr : Nat} {acc : Access} {rest : List Event}
    (hout : addr < s.params.csrBase ∨ s.params.csrBase + 256 ≤ addr) (h : s.env.agenda = .platform addr acc :: rest) :
    step s = .fault .outsideWindow := by
  have hw : windowOffset s.params.csrBase addr = none := if_neg (by omega)
  simp only [step, h, State.turn, hw]

/-- Settles O49: `State.csrAccess_busError` inside the window, `State.csrAccess_outside` and `step_of_platform_outside`
elsewhere. -/
theorem busErrorChangesNothing : Obligations.BusErrorChangesNothing := by
  refine ⟨fun s x n v acc rest hx hn hacc h => ?_, fun s x acc rest hx h => ?_, fun s addr acc rest haddr h =>
    step_of_platform_outside (.inl haddr) h⟩
  · rw [step_of_accesses hx h, State.csrAccess_busError _ hx hn hacc]
    rfl
  · rcases h with h | h
    · simp only [step, h, State.turn, State.csrAccess_outside _ acc hx]
    · exact step_of_platform_outside (.inr (by omega)) h

/-! ### A next state -/

/-- Every command answers a next state (R243). -/
theorem exec_answers (i : Instr) (s : State) : ∃ t, exec i s = .next t := by
  rcases exec_next i s with ⟨-, e⟩ | ⟨-, -, e⟩ | ⟨-, -, e⟩ <;> exact ⟨_, e⟩

/-- Every engine move answers a next state (R243). -/
theorem State.engineMove_answers (s : State) : ∃ t, s.engineMove = .next t := by
  unfold State.engineMove
  cases s.phase with
  | accum => cases s.env.offers <;> exact ⟨_, rfl⟩
  | busy i => exact exec_answers i _
  | _ => exact ⟨_, rfl⟩

/-- A command word, executed at once or later, and every CSR write answer a next state (R85, R234). -/
theorem State.writeCommand_answers (s : State) (w : Word) : ∃ t, s.writeCommand w = .next t := by
  unfold State.writeCommand
  cases decodeWord w with
  | illegal r => exact ⟨_, rfl⟩
  | command i => exact exec_answers i s

theorem State.slowCommand_answers (s : State) (w : Word) : ∃ t, s.slowCommand w = .next t := by
  unfold State.slowCommand
  cases decodeWord w with
  | illegal r => exact ⟨_, rfl⟩
  | command i => cases i <;> exact ⟨_, rfl⟩

theorem State.csrWrite_answers (s : State) (x : Nat) (v : Word) : ∃ t, s.csrWrite x v = .next t := by
  unfold State.csrWrite
  cases csrAt x with
  | none => exact ⟨_, rfl⟩
  | some c =>
    cases c with
    | cmd => exact s.writeCommand_answers v
    | _ => exact ⟨_, rfl⟩

/-- Every access in the window answers a next state (R67). -/
theorem State.csrAccess_answers (s : State) {x : Nat} (acc : Access) (hx : x < 256) : ∃ t, s.csrAccess x acc = .next t := by
  unfold State.csrAccess
  rw [if_neg (Nat.not_le.mpr hx)]
  cases acc with
  | read bytes => dsimp only; split <;> exact ⟨_, rfl⟩
  | write bytes v =>
    dsimp only
    split
    · exact State.csrWrite_answers _ x v
    · exact ⟨_, rfl⟩

/-- Settles O55, event by event. -/
theorem stepStopsOnlyOutsideWindow : Obligations.StepStopsOnlyOutsideWindow := by
  intro s hs
  unfold step
  split
  · exact s.engineMove_answers
  rename_i e rest ha
  have hin := hs e (by rw [ha]; exact List.mem_cons_self)
  cases e with
  | engine => exact (s.setAgenda rest).engineMove_answers
  | takePass =>
    simp only [State.turn]
    split
    exacts [⟨_, rfl⟩, s.engineMove_answers]
  | takeRec =>
    simp only [State.turn]
    split
    exacts [⟨_, rfl⟩, s.engineMove_answers]
  | poll =>
    simp only [State.turn]
    split
    exacts [s.engineMove_answers, ⟨_, rfl⟩]
  | csr x acc => exact State.csrAccess_answers _ acc hin
  | slowCmd w => exact State.slowCommand_answers _ w
  | platform addr acc =>
    obtain ⟨hlo, hhi⟩ := hin
    have hw : windowOffset s.params.csrBase addr = some (addr - s.params.csrBase) := if_pos ⟨hlo, hhi⟩
    simp only [State.turn, hw]
    exact State.csrAccess_answers _ acc (by omega)
  | offer | withdraw | rst => exact ⟨_, rfl⟩

end Sys2Proof.Machine
end

section
/-! SUPPORT. The decoder and the encoder, field by field (R80 to R84). -/

namespace Sys2Proof

/-- OP is bits 31:28 of the word (R80). -/
theorem toNat_extractLsb_opField (w : Word) : (w.extractLsb 31 28).toNat = opField w := by
  rw [BitVec.extractLsb_toNat, Nat.shiftRight_eq_div_pow]
  exact Nat.mod_eq_of_lt (opField_lt w)

/-- ARG is bits 27:0 of the word (R80). -/
theorem toNat_extractLsb_argField (w : Word) : (w.extractLsb 27 0).toNat = argField w := BitVec.extractLsb_toNat ..

/-- R84: the fields of a word that is no command. -/
abbrev IllegalFields (w : Word) : Prop := 0x9 ≤ opField w ∨ (opField w ≠ 0x1 ∧ argField w ≠ 0)

/-- Only CORR has an operand (R83). -/
theorem Instr.arg_of_opcode_ne {i : Instr} (h : i.opcode ≠ 0x1) : i.arg = 0 := by
  cases i with
  | corr a => exact absurd rfl h
  | _ => rfl

/-- A command's fields are legal (R83, R84). -/
theorem not_illegalFields {w : Word} {i : Instr} (hop : opField w = i.opcode) (harg : argField w = i.arg) :
    ¬ IllegalFields w := by
  rintro (h | ⟨h, ha⟩)
  · exact absurd i.opcode_lt (by omega)
  · exact ha (harg.trans (Instr.arg_of_opcode_ne (hop ▸ h)))

/-- An opcode without operand: the word is its command when ARG = 0 and illegal otherwise (R83, R84). -/
theorem plainCommand_cases {w : Word} {i : Instr} (hop : opField w = i.opcode) (h1 : i.opcode ≠ 0x1) :
    (∃ j, plainCommand w i = .command j ∧ opField w = j.opcode ∧ argField w = j.arg) ∨
    (IllegalFields w ∧ ∃ r, plainCommand w i = .illegal r) := by
  by_cases h : argField w = 0
  · exact .inl ⟨i, if_pos h, hop, h.trans (Instr.arg_of_opcode_ne h1).symm⟩
  · exact .inr ⟨.inr ⟨hop ▸ h1, h⟩, _, if_neg h⟩

/-- The decoder's two outcomes: the command whose fields the word has, or a refusal of illegal fields (R83, R84). -/
theorem decodeWord_cases (w : Word) :
    (∃ i, decodeWord w = .command i ∧ opField w = i.opcode ∧ argField w = i.arg) ∨
    (IllegalFields w ∧ ∃ r, decodeWord w = .illegal r) := by
  unfold decodeWord
  split
  case h_2 hop => exact .inl ⟨_, rfl, hop, rfl⟩
  case h_10 => exact .inr ⟨.inl (by grind), _, rfl⟩
  all_goals exact plainCommand_cases ‹_› nofun

/-- A word with a command's fields decodes to it (R83). -/
theorem decodeWord_of_fields {w : Word} {i : Instr} (hop : opField w = i.opcode) (harg : argField w = i.arg) :
    decodeWord w = .command i := by
  cases i with
  | corr a => rw [decodeWord, hop, harg]; rfl
  | _ => rw [decodeWord, hop]; exact if_pos harg

/-- The fields of a word that decodes to a command are the command's (R83). -/
theorem fields_of_decodeWord {w : Word} {i : Instr} (h : decodeWord w = .command i) :
    opField w = i.opcode ∧ argField w = i.arg := by
  rcases decodeWord_cases w with ⟨j, e, hfields⟩ | ⟨-, r, e⟩ <;> rw [h] at e
  · cases e; exact hfields
  · cases e

/-- The illegal words are those with illegal fields, and no others (R84). -/
theorem decodeWord_illegal_iff (w : Word) : (∃ r, decodeWord w = .illegal r) ↔ IllegalFields w := by
  rcases decodeWord_cases w with ⟨i, e, hop, harg⟩ | ⟨hill, hr⟩
  · exact iff_of_false (fun ⟨r, h⟩ => nomatch e.symm.trans h) (not_illegalFields hop harg)
  · exact iff_of_true hr hill

/-- A command whose operand fits ARG is well formed (R82). -/
theorem Instr.wellFormed_of_arg_lt {i : Instr} (h : i.arg < 2 ^ 28) : i.wellFormed = true := by
  cases i with
  | corr a => exact decide_eq_true h
  | _ => rfl

/-- Settles O1: the encoded word has the command's fields. -/
theorem decodeOfEncodedCommand : Obligations.DecodeOfEncodedCommand := fun i h =>
  decodeWord_of_fields (opField_encode i) ((argField_encode i).trans (Nat.mod_eq_of_lt (Instr.arg_lt h)))

/-- Settles O2: the word has the command's fields, and a word is its two fields. -/
theorem encodeOfDecodedWord : Obligations.EncodeOfDecodedWord := by
  intro w i h
  obtain ⟨hop, harg⟩ := fields_of_decodeWord h
  have hlt : i.arg < 2 ^ 28 := harg ▸ argField_lt w
  refine ⟨Instr.wellFormed_of_arg_lt hlt, BitVec.eq_of_toNat_eq ?_⟩
  rw [toNat_encode, word_of_fields w, hop, harg, Nat.mod_eq_of_lt hlt]

/-- Settles O3, word by word. -/
theorem opcodeMapWords : Obligations.OpcodeMapWords := by
  unfold Obligations.OpcodeMapWords
  decide

end Sys2Proof
end

section
/-! SUPPORT. The dispatch of a CMD write (R85), and TRY as one evaluation of the scan (R87). -/

namespace Sys2Proof.Machine

/-! ### CMD writes -/

/-- A step that writes CMD at once dispatches the word (R85). -/
theorem step_of_cmdWrite {s : State} {w : Word} {rest : List Event} (h : s.accesses 0x08 (.write 4 w) rest) :
    step s = ((s.setAgenda rest).answer .written).writeCommand w :=
  step_of_write (by decide) (by decide) h

/-- A step that writes to CMD a word whose command takes time dispatches it too (R85, R275). -/
theorem step_of_slowCmd {s : State} {w : Word} {rest : List Event} (h : s.env.agenda = .slowCmd w :: rest) :
    step s = ((s.setAgenda rest).answer .written).slowCommand w := by
  simp only [step, h, State.turn]

/-- An illegal word written to CMD, at once or as one that takes time, raises ILLEGAL_CMD (R84). -/
theorem step_of_illegal_word {s : State} {w : Word} {rest : List Event} (h : s.writesCmd w rest) (hw : IllegalFields w) :
    step s = .next (((s.setAgenda rest).answer .written).raise .illegalCmd) := by
  obtain ⟨r, hr⟩ := (decodeWord_illegal_iff w).mpr hw
  rcases h with h | h
  · rw [step_of_cmdWrite h, State.writeCommand, hr]
  · rw [step_of_slowCmd h, State.slowCommand, hr]

/-- A command by its opcode, as R85's dispatch reads the map of R83. -/
theorem command_of_opcode {i : Instr} (hi : i ≠ .sreset) :
    (if i.opcode = 0x0 then .nop else if i.opcode = 0x1 then .corr i.arg else if i.opcode = 0x2 then .slice
      else if i.opcode = 0x3 then .pmatch else if i.opcode = 0x4 then .decode else if i.opcode = 0x5 then .emit
      else if i.opcode = 0x6 then .proc else .clear) = i := by
  cases i with
  | sreset => exact absurd rfl hi
  | _ => rfl

/-- SRESET is the command of OP = 8 (R83). -/
theorem opcode_eq_sreset_iff {i : Instr} : i.opcode = 0x8 ↔ i = .sreset := by
  cases i <;> simp [Instr.opcode]

/-- Settles O5: an illegal word by `step_of_illegal_word`, a command by the fields of its word. -/
theorem cmdWriteDispatchOrder : Obligations.CmdWriteDispatchOrder := by
  intro s w rest h
  simp only [toNat_extractLsb_opField, toNat_extractLsb_argField]
  rcases decodeWord_cases w with ⟨i, hd, hop, harg⟩ | ⟨hill, -⟩
  · have hstep := stepRunsWrittenCommand s w i rest h hd
    rw [if_neg (not_illegalFields hop harg), hop, harg]
    split
    · rwa [← opcode_eq_sreset_iff.mp ‹_›]
    have hi : i ≠ .sreset := mt opcode_eq_sreset_iff.mpr ‹_›
    split
    · exact hstep.trans (exec_of_not_accum hi (mt Phase.mode_eq_accum.mpr ‹_›))
    · rwa [command_of_opcode hi]
  · rw [if_pos hill]
    exact step_of_illegal_word (.inl h) hill

/-- Settles O6, by `decodeWord_illegal_iff` and `step_of_illegal_word`. -/
theorem illegalWordOnlySetsFlag : Obligations.IllegalWordOnlySetsFlag := by
  simp only [Obligations.IllegalWordOnlySetsFlag, toNat_extractLsb_opField, toNat_extractLsb_argField]
  exact ⟨decodeWord_illegal_iff, fun s w rest h hill => ⟨_, step_of_illegal_word h hill, rfl, rfl, rfl⟩⟩

/-- Settles O7: outside ACCUM every command but SRESET is refused. -/
theorem commandOutsideAccumRaisesStateErr : Obligations.CommandOutsideAccumRaisesStateErr := fun _ _ hi hm =>
  exec_of_not_accum hi (mt Phase.mode_eq_accum.mpr hm)

/-- A slow command other than SRESET makes R85's mode check, and waits (R275). -/
theorem State.acceptCommand_eq {i : Instr} (hi : i ≠ .sreset) (s : State) :
    s.acceptCommand i = .next (s.command fun t => t.setPhase (.busy i)) := by
  cases i with
  | sreset => exact absurd rfl hi
  | _ => rfl

/-- In ACCUM it is accepted, elsewhere refused (R85, R275). -/
theorem State.acceptCommand_of_accum {s : State} {i : Instr} (hi : i ≠ .sreset) (hm : s.mode = .accum) :
    s.acceptCommand i = .next (s.setPhase (.busy i)) := by
  rw [State.acceptCommand_eq hi, State.command, if_pos hm]

theorem State.acceptCommand_of_not_accum {s : State} {i : Instr} (hi : i ≠ .sreset) (hm : s.mode ≠ .accum) :
    s.acceptCommand i = .next (s.raise .stateErr) := by
  rw [State.acceptCommand_eq hi, State.command, if_neg hm]

/-- A waiting command is executed as the command it is at the engine's next move (R275). -/
theorem State.engineMove_of_busy {s : State} {i : Instr} (h : s.phase = .busy i) :
    s.engineMove = exec i (s.setPhase .accum) := by
  simp only [State.engineMove, h]

/-- Settles O8: acceptance by `State.acceptCommand_of_accum`, execution by `State.engineMove_of_busy`. -/
theorem slowCommandRunsLater : Obligations.SlowCommandRunsLater := by
  refine ⟨fun s w i rest h hd => ?_, fun s i hp ha => ?_, fun s i rest hp ha => ?_⟩
  · have hstep : step s = ((s.setAgenda rest).answer .written).acceptCommand i := by
      rw [step_of_slowCmd h, State.slowCommand, hd]
    exact ⟨fun hi => by rw [hstep, hi]; rfl, fun hi hm => ⟨_, hstep.trans (State.acceptCommand_of_accum hi hm), rfl, rfl⟩,
      fun hi hm => hstep.trans (State.acceptCommand_of_not_accum hi hm)⟩
  · simp only [step, ha]
    exact State.engineMove_of_busy hp
  · simp only [step, ha, State.turn]
    exact State.engineMove_of_busy (s := s.setAgenda rest) hp

/-! ### TRY -/

/-- An evaluation leaves DEC_OK and VREJ at 0 (R150). -/
theorem State.evaluate_flags_noCandidate (s : State) (a : Nat) :
    (s.evaluate a).flags.noCandidate = (s.evaluate a).flags := rfl

/-- DECODE after an evaluation without a match changes nothing (R184). -/
theorem State.decodeFrame_of_miss {s : State} {a : Nat} (h : (s.evaluate a).flags.matched = false) :
    (s.evaluate a).decodeFrame = s.evaluate a := by
  rcases (s.evaluate a).decodeFrame_cases with ⟨-, e⟩ | ⟨hm, -⟩ | ⟨hm, -⟩
  · rw [e, State.evaluate_flags_noCandidate, State.setFlags_same]
  · exact absurd (h.symm.trans hm) nofun
  · exact absurd (h.symm.trans hm) nofun

/-- EMIT with room in the FIFO sends what there is to send (R190). -/
theorem State.emitThen_of_room {s : State} (hold done : Phase) (h : s.fifo.length < s.params.recDepth) :
    s.emitThen hold done = s.emitFree.setPhase done := by
  unfold State.emitFree
  rcases s.emitThen_cases hold done with ⟨hd, e⟩ | ⟨hd, -, e⟩ | ⟨-, hfull, -⟩
  · rw [e, hd]; rfl
  · rw [e, hd]; rfl
  · omega

/-- Sending a record leaves the phase as it is (R190). -/
theorem State.emitFree_phase (s : State) : s.emitFree.phase = s.phase := by
  unfold State.emitFree
  split <;> rfl

/-- Settles O43: the first three commands are the evaluation, and EMIT, with room, ends in ACCUM where it began; after a miss
DECODE and EMIT have nothing to do. A window that does not fit would do the same in both. -/
theorem tryIsOneScanEvaluation : Obligations.TryIsOneScanEvaluation := by
  intro s a hm _ hroom
  have hp : s.phase = .accum := Phase.mode_eq_accum.mp hm
  have hroom' : (s.evaluate a).decodeFrame.fifo.length < (s.evaluate a).decodeFrame.params.recDepth := by simpa using hroom
  have hemit : (s.evaluate a).decodeFrame.emitThen .emitHold .accum = (s.evaluate a).decodeFrame.emitFree := by
    rw [State.emitThen_of_room _ _ hroom']
    exact State.setPhase_of_phase (by rw [State.emitFree_phase]; simpa using hp)
  refine ⟨s.corr a, (s.corr a).slice, s.evaluate a, (s.evaluate a).decodeFrame, _, exec_of_accum nofun hp,
    exec_of_accum nofun (by simpa using hp), exec_of_accum nofun (by simpa using hp), exec_of_accum nofun (by simpa using hp),
    exec_of_accum nofun (by simpa using hp), hemit.trans ?_⟩
  cases hmatch : (s.evaluate a).flags.matched
  · rw [State.decodeFrame_of_miss hmatch]
    rfl
  · rfl

end Sys2Proof.Machine
end

section
/-! SUPPORT. The engine's intake of an offered block (R100, R214, R244). -/

namespace Sys2Proof.Machine

/-- A step planned for the engine is its move (R71). -/
theorem step_of_engine {s : State} {rest : List Event} (h : s.env.agenda = .engine :: rest) :
    step s = (s.setAgenda rest).engineMove := by
  simp only [step, h, State.turn]

/-- In ACCUM the engine accepts the oldest offered block (R100). -/
theorem State.engineMove_of_offer {s : State} {b : Block} {bs : List Block} (hm : s.mode = .accum)
    (ho : s.env.offers = b :: bs) : s.engineMove = .next ((s.setOffers bs).acceptBlock b) := by
  simp only [State.engineMove, Phase.mode_eq_accum.mp hm, ho]

/-- A planned move in ACCUM with blocks offered accepts the oldest. -/
theorem step_of_engine_offer {s : State} {b : Block} {bs : List Block} {rest : List Event} (hm : s.mode = .accum)
    (ha : s.env.agenda = .engine :: rest) (ho : s.env.offers = b :: bs) :
    step s = .next (((s.setAgenda rest).setOffers bs).acceptBlock b) :=
  (step_of_engine ha).trans (State.engineMove_of_offer (s := s.setAgenda rest) hm ho)

/-- A block of BLOCKSIZE bytes goes to the PASS port (R100, R214). -/
theorem State.acceptBlock_of_length {s : State} {b : Block} (h : b.length = s.params.blockSize) :
    s.acceptBlock b = s.setPhase (.passHold b) := by
  rcases s.acceptBlock_cases b with ⟨-, e⟩ | ⟨hne, -⟩
  · exact e
  · exact absurd h hne

/-- A block of another length halts the engine (R241, R244). -/
theorem State.acceptBlock_of_length_ne {s : State} {b : Block} (h : b.length ≠ s.params.blockSize) :
    s.acceptBlock b = s.haltOnBlock := by
  rcases s.acceptBlock_cases b with ⟨heq, -⟩ | ⟨-, e⟩
  · exact absurd heq h
  · exact e

/-- While the PASS port holds a block the engine waits (R277, R278). -/
theorem State.engineMove_of_passHold {s : State} {b : Block} (h : s.phase = .passHold b) : s.engineMove = .next s := by
  simp only [State.engineMove, h]

/-- A take of a block on the PASS port is PassOut (R214). -/
theorem step_of_takePass {s : State} {b : Block} {rest : List Event} (hp : s.phase = .passHold b)
    (ha : s.env.agenda = .takePass :: rest) : step s = .next ((s.setAgenda rest).passOut b) := by
  simp only [step, ha, State.turn, hp]

/-- Settles O31: acceptance by `State.acceptBlock_of_length`, the hold by `State.engineMove_of_passHold`, the take by
`step_of_takePass`. -/
theorem pushGoesToPassFirst : Obligations.PushGoesToPassFirst := by
  refine ⟨fun s b bs rest hm ha ho hlen => ?_, fun s b hp ha => ?_, fun s b rest => step_of_takePass⟩
  · have hstep : step s = .next (((s.setAgenda rest).setOffers bs).setPhase (.passHold b)) := by
      rw [step_of_engine_offer hm ha ho, State.acceptBlock_of_length (by exact hlen)]
    exact ⟨_, hstep, rfl, rfl⟩
  · simp only [step, ha]
    exact State.engineMove_of_passHold hp

/-- Settles O32, by `State.acceptBlock_of_length_ne`: `State.haltOnBlock` touches BLOCK_ERR and the phase alone. -/
theorem malformedBlockHalts : Obligations.MalformedBlockHalts := by
  intro s b bs rest hm ha ho hlen
  have hstep : step s = .next ((s.setAgenda rest).setOffers bs).haltOnBlock := by
    rw [step_of_engine_offer hm ha ho, State.acceptBlock_of_length_ne (by exact hlen)]
  exact ⟨_, hstep, rfl, rfl⟩

end Sys2Proof.Machine
end

section
/-! SUPPORT. CORR's outcomes as a command, and its soft bits as sums over the two parts of a slot (R124 to R127). -/

namespace Sys2Proof.Machine

/-- The only answer of a command other than SRESET in ACCUM is its effect (R85). -/
theorem eq_effect_of_exec {i : Instr} {s t : State} (hm : s.mode = .accum) (h : exec i s = .next t) (hi : i ≠ .sreset) :
    t = effect i s := by
  rw [exec_of_accum hi (Phase.mode_eq_accum.mp hm)] at h
  injection h with h
  exact h.symm

/-- In ACCUM the command CORR is CORR (R85, R124). -/
theorem exec_corr_of_accum {s : State} (hm : s.mode = .accum) (a : Nat) : exec (.corr a) s = .next (s.corr a) :=
  exec_of_accum nofun (Phase.mode_eq_accum.mp hm)

/-- CORR of a window that fits (R123, R124). -/
theorem State.corr_of_fits {s : State} {a : Nat} (h : a + 97 * s.params.p ≤ s.ls) :
    s.corr a = ((s.setSb (s.softBits a)).setCandOffset (BitVec.ofNat 28 a)).setFlags s.flags.cleared := by
  rcases s.corr_cases a with ⟨hout, -⟩ | ⟨-, e⟩
  · exact absurd hout (Nat.not_lt.mpr h)
  · exact e

/-- CORR of a window that does not fit (R123, R124). -/
theorem State.corr_of_not_fits {s : State} {a : Nat} (h : s.ls < a + 97 * s.params.p) : s.corr a = s.raise .rangeErr := by
  rcases s.corr_cases a with ⟨-, e⟩ | ⟨hfit, -⟩
  · exact e
  · exact absurd h (Nat.not_lt.mpr hfit)

/-- SB[n] after CORR of a window that fits. -/
theorem State.SB_corr {s : State} {a : Nat} (h : a + 97 * s.params.p ≤ s.ls) (n : Nat) :
    (s.corr a).SB n = (s.softBits a).toList.getD n 0 := by
  rw [State.corr_of_fits h]; rfl

/-- BV[n] after SLICE (R140). -/
theorem State.BV_slice (s : State) {n : Nat} (hn : n < 96) : s.slice.BV n = decide (0 < s.SB n) :=
  State.slice_signs (t := s.slice) (u := s) rfl rfl n hn

/-- Over d samples the cumulative energy grows by their powers (R122). -/
theorem State.energy_add (s : State) (a k d : Nat) :
    s.energy a (k + d) = s.energy a k + ∑ j ∈ Finset.Icc (k + 1) (k + d), s.power (a + j) := by
  induction d with
  | zero => simp
  | succ d ih => rw [← Nat.add_assoc, s.energy_succ, ih, Finset.sum_Icc_succ_top (by omega), add_assoc]

/-- A soft bit is the energy of the first H samples of its slot minus that of the other P − H: the cumulative energy at the
split point counts twice, and what came before the slot cancels (R125). -/
theorem State.softBits_closedForm (s : State) (a : Nat) {n : Nat} (hn : n < 96) :
    (s.softBits a).toList.getD n 0 =
      (∑ j ∈ Finset.Icc (n * s.params.p + 1) (n * s.params.p + s.params.half), s.power (a + j))
        - ∑ j ∈ Finset.Icc (n * s.params.p + s.params.half + 1) (n * s.params.p + s.params.p), s.power (a + j) := by
  have hh : s.params.half = s.params.p / 2 := rfl
  have first := s.energy_add a (n * s.params.p) s.params.half
  have second := s.energy_add a (n * s.params.p + s.params.half) (s.params.p - s.params.half)
  rw [show n * s.params.p + s.params.half + (s.params.p - s.params.half) = n * s.params.p + s.params.p by omega] at second
  rw [s.softBits_getD a hn]
  linarith

/-- The energy of m samples of the same power. -/
theorem State.sum_power_of_constant {s : State} {a k m : Nat} {q : Int}
    (h : ∀ j, k + 1 ≤ j → j ≤ k + m → s.power (a + j) = q) :
    ∑ j ∈ Finset.Icc (k + 1) (k + m), s.power (a + j) = m * q := by
  have hconst : ∀ j ∈ Finset.Icc (k + 1) (k + m), s.power (a + j) = q := fun j hj =>
    h j (Finset.mem_Icc.mp hj).1 (Finset.mem_Icc.mp hj).2
  rw [Finset.sum_congr rfl hconst, Finset.sum_const, Nat.card_Icc, nsmul_eq_mul, show k + m + 1 - (k + 1) = m by omega]

/-- In a slot of constant power q the two parts differ by their lengths alone (R127). -/
theorem State.softBits_of_constant {s : State} {a n : Nat} {q : Int} (hn : n < 96)
    (h : ∀ j, n * s.params.p + 1 ≤ j → j ≤ n * s.params.p + s.params.p → s.power (a + j) = q) :
    (s.softBits a).toList.getD n 0 = ((s.params.half : Int) - (s.params.p - s.params.half : Nat)) * q := by
  have hh : s.params.half = s.params.p / 2 := rfl
  have hsplit : n * s.params.p + s.params.p = n * s.params.p + s.params.half + (s.params.p - s.params.half) := by omega
  rw [s.softBits_closedForm a hn, hsplit, State.sum_power_of_constant fun j h1 h2 => h j h1 (by omega),
    State.sum_power_of_constant fun j h1 h2 => h j (by omega) (by omega), sub_mul]

/-- Settles O13: the effect by `State.corr_of_fits`, the soft bits by `State.softBits_getD`. -/
theorem corrWritesSoftBits : Obligations.CorrWritesSoftBits := by
  intro s a hm hfit
  refine ⟨s.corr a, exec_corr_of_accum hm a, fun n hn => ?_, fun x => by rw [State.corr_mem], ?_⟩
  · rw [State.SB_corr hfit]
    exact s.softBits_getD a hn
  · rw [State.corr_of_fits hfit]; rfl

/-- Settles O14, by `State.softBits_closedForm`. -/
theorem corrClosedForm : Obligations.CorrClosedForm := by
  intro s t a n hm hfit hn h
  obtain rfl : t = s.corr a := eq_effect_of_exec hm h nofun
  exact (State.SB_corr hfit n).trans (s.softBits_closedForm a hn)

/-- Settles O16, by `State.abs_softBits_le`: P − H is at most 16384 because P is at most 32768 (R6). -/
theorem softBitsFitTheirRegister : Obligations.SoftBitsFitTheirRegister := by
  intro s t a n hm hfit hn h
  obtain rfl : t = s.corr a := eq_effect_of_exec hm h nofun
  have hp : s.params.p ≤ 32768 := s.build.p_le
  refine ⟨?_, by omega, by decide⟩
  rw [State.SB_corr hfit]
  exact s.abs_softBits_le a hn

/-- Settles O17, by `State.softBits_of_constant`: the second part of a slot is longer by one sample when P is odd, and its
power is not negative. -/
theorem constantPowerSlot : Obligations.ConstantPowerSlot := by
  intro s t u a n q hm hfit hn hconst hcorr hslice
  obtain rfl : t = s.corr a := eq_effect_of_exec hm hcorr nofun
  obtain rfl : u = (s.corr a).slice := eq_effect_of_exec (by rwa [State.mode_corr]) hslice nofun
  have hh : s.params.half = s.params.p / 2 := rfl
  have hp : 2 ≤ s.params.p := s.build.two_le_p
  have hq : 0 ≤ q := hconst (n * s.params.p + 1) le_rfl (by omega) ▸ s.power_nonneg _
  have hSB := (State.SB_corr hfit n).trans (State.softBits_of_constant hn hconst)
  have hodd : s.params.p % 2 = 1 → (s.corr a).SB n = -q := fun h => by
    rw [hSB, show (s.params.half : Int) - (s.params.p - s.params.half : Nat) = -1 by omega, neg_one_mul]
  have heven : s.params.p % 2 = 0 → (s.corr a).SB n = 0 := fun h => by
    rw [hSB, show (s.params.half : Int) - (s.params.p - s.params.half : Nat) = 0 by omega, zero_mul]
  refine ⟨fun h => ⟨by omega, hodd h⟩, heven, ?_⟩
  rw [State.BV_slice _ hn, decide_eq_false_iff_not]
  rcases Nat.mod_two_eq_zero_or_one s.params.p with h | h
  · rw [heven h]; exact lt_irrefl 0
  · rw [hodd h]; omega

/-- Settles O15, by `State.corr_of_not_fits`. -/
theorem corrOutsideBufferRaisesRangeErr : Obligations.CorrOutsideBufferRaisesRangeErr := by
  intro s a hm hout
  rw [exec_corr_of_accum hm, State.corr_of_not_fits hout]
  rfl

end Sys2Proof.Machine
end

section
/-! SUPPORT. SLICE as a command, and SLICE on bits that are already the signs of the soft bits (R140, R141). -/

namespace Sys2Proof.Machine

/-- In ACCUM the command SLICE is SLICE (R85, R140). -/
theorem exec_slice_of_accum {s : State} (hm : s.mode = .accum) : exec .slice s = .next s.slice :=
  exec_of_accum nofun (Phase.mode_eq_accum.mp hm)

/-- What SLICE writes to BV depends on SB alone (R141). -/
theorem State.slice_bv_congr {s u : State} (h : u.sb = s.sb) : u.slice.bv = s.slice.bv := by
  have hSB (n : Nat) : u.SB n = s.SB n := by rw [State.SB, State.SB, h]
  exact congrArg (tabulate 96) (funext fun n => by rw [hSB])

/-- SLICE touches BV and the flags alone (R140). -/
theorem State.slice_eq (s : State) : s.slice = { s with bv := s.slice.bv, flags := s.flags.cleared } := rfl

/-- When BV already is what SLICE writes, SLICE only clears flags (R141). -/
theorem State.slice_of_sliced {u : State} (h : u.slice.bv = u.bv) : u.slice = u.setFlags u.flags.cleared := by
  rw [u.slice_eq, h]; rfl

/-- Settles O19: the signs by `State.BV_slice`, the frame by `State.slice_eq`. -/
theorem sliceTakesSigns : Obligations.SliceTakesSigns := by
  intro s hm
  refine ⟨s.slice, exec_slice_of_accum hm, fun n hn => ?_, fun x => by rw [State.slice_mem], s.slice_eq⟩
  rw [s.BV_slice hn, Bool.if_true_left, Bool.or_false]

/-- Settles O20: with SB and BV as the first SLICE left them, BV already is what SLICE writes, by `State.slice_bv_congr`. -/
theorem sliceIsIdempotent : Obligations.SliceIsIdempotent := by
  intro s t u hs ht hu hsb hbv
  obtain rfl : t = s.slice := eq_effect_of_exec hs ht nofun
  have hsliced : u.slice.bv = u.bv := (State.slice_bv_congr (hsb.trans s.slice_sb)).trans hbv.symm
  rw [exec_slice_of_accum hu, State.slice_of_sliced hsliced]
  rfl

end Sys2Proof.Machine
end

section
/-! SUPPORT. PMATCH as a command, and the moves of the scan one by one (R150, R155 to R160). -/

namespace Sys2Proof.Machine

/-- Settles O21: in ACCUM PMATCH has its effect, and its comparison is `State.preambleMatch_iff`. -/
theorem pmatchComparesPreamble : Obligations.PmatchComparesPreamble := fun s hm =>
  ⟨s.pmatch, exec_of_accum nofun (Phase.mode_eq_accum.mp hm), s.preambleMatch_iff, fun _ => rfl, rfl⟩

/-! ### The engine's move in each phase of a scan -/

theorem State.engineMove_of_scanOuter {s : State} {u : Nat} (h : s.phase = .scanOuter u) :
    s.engineMove = .next (s.scanOuterMove u) := by
  simp only [State.engineMove, h]

theorem State.engineMove_of_scanInner {s : State} {u lsub o : Nat} (h : s.phase = .scanInner u lsub o) :
    s.engineMove = .next (s.scanInnerMove u lsub o) := by
  simp only [State.engineMove, h]

theorem State.engineMove_of_scanEmit {s : State} {u lsub o : Nat} (h : s.phase = .scanEmit u lsub o) :
    s.engineMove = .next (s.scanEmitMove u lsub o) := by
  simp only [State.engineMove, h]

/-- With nothing planned a step is the engine's move (R283). -/
theorem step_of_no_agenda {s : State} (h : s.env.agenda = []) : step s = s.engineMove := by
  simp only [step, h]

/-! ### The outer loop -/

/-- A sub-buffer is drawn where enough samples are left (R156, R157). -/
theorem State.scanOuterMove_of_more {s : State} {u : Nat} (h : u + (s.params.subLen - s.params.jump) ≤ s.ls) :
    s.scanOuterMove u = s.setPhase (.scanInner u (min s.params.subLen (s.ls - u)) 0) := if_pos h

/-- Else the scan is over (R155, R210). -/
theorem State.scanOuterMove_of_end {s : State} {u : Nat} (h : s.ls < u + (s.params.subLen - s.params.jump)) :
    s.scanOuterMove u = s.bufClear.setPhase .accum := if_neg (Nat.not_le.mpr h)

/-! ### The inner loop -/

/-- A window that matches is decoded (R160). -/
theorem State.scanInnerMove_of_match {s : State} {u lsub o : Nat} (hfit : o + s.params.win ≤ lsub)
    (hm : (s.evaluate (u + o)).flags.matched = true) :
    s.scanInnerMove u lsub o = (s.evaluate (u + o)).decodeFrame.setPhase (.scanEmit u lsub o) := by
  simp only [State.scanInnerMove, if_pos hfit, hm]

/-- A window that does not match moves the cursor on by JUMP (R159). -/
theorem State.scanInnerMove_of_miss {s : State} {u lsub o : Nat} (hfit : o + s.params.win ≤ lsub)
    (hm : (s.evaluate (u + o)).flags.matched = false) :
    s.scanInnerMove u lsub o = (s.evaluate (u + o)).setPhase (.scanInner u lsub (o + s.params.jump)) := by
  simp only [State.scanInnerMove, if_pos hfit, hm]

/-- OSTRIDE, with its factors in the order R156 writes them. -/
theorem Params.oStride_eq (c : Params) : c.oStride = 96 * c.jump := Nat.mul_comm ..

/-- Where no window fits the sub-buffer is done (R156, R158). -/
theorem State.scanInnerMove_of_end {s : State} {u lsub o : Nat} (h : lsub < o + s.params.win) :
    s.scanInnerMove u lsub o = s.setPhase (.scanOuter (u + s.params.oStride)) := if_neg (Nat.not_le.mpr h)

/-- Settles O37: the move evaluates as the commands do, which do not read the phase. -/
theorem innerLoopMove : Obligations.InnerLoopMove := by
  intro s u lsub o hp ha
  have hstep : step s = .next (s.scanInnerMove u lsub o) :=
    (step_of_no_agenda ha).trans (State.engineMove_of_scanInner hp)
  refine ⟨fun hfit => ?_, fun hend => by
    rw [hstep, State.scanInnerMove_of_end hend, Params.oStride_eq]; rfl⟩
  have heval : (s.setPhase .accum).evaluate (u + o) = (s.evaluate (u + o)).setPhase .accum := s.evaluate_setPhase .accum _
  have hphase : ((s.setPhase .accum).evaluate (u + o)).phase = .accum := by rw [heval]; rfl
  refine ⟨(s.setPhase .accum).corr (u + o), ((s.setPhase .accum).corr (u + o)).slice, (s.setPhase .accum).evaluate (u + o),
    exec_of_accum nofun rfl, exec_of_accum nofun hphase, exec_of_accum nofun hphase, fun hm => ?_, fun hm => ?_⟩
  · rw [heval] at hm ⊢
    rw [hstep, State.scanInnerMove_of_miss hfit hm]
    rfl
  · refine ⟨_, exec_of_accum nofun hphase, ?_⟩
    rw [heval] at hm ⊢
    rw [hstep, State.scanInnerMove_of_match hfit hm, effect, State.decodeFrame_setPhase]
    rfl

/-! ### The EMIT of a scan -/

/-- EMIT with nothing decoded goes on (R190). -/
theorem State.emitThen_of_nothing {s : State} (hold done : Phase) (h : s.flags.decOk = false) :
    s.emitThen hold done = s.setPhase done := by
  simp only [State.emitThen, h]

/-- EMIT holds while the FIFO is full (R190, R277). -/
theorem State.emitThen_of_full {s : State} (hold done : Phase) (hd : s.flags.decOk = true)
    (hf : s.params.recDepth ≤ s.fifo.length) : s.emitThen hold done = s.setPhase hold := by
  have hroom : s.hasRoom = false := decide_eq_false (Nat.not_lt.mpr hf)
  simp only [State.emitThen, hd, hroom]

/-- Settles O38: over the integers the outer test is the model's, because JUMP is below SUBLEN (R6). -/
theorem outerLoopAndEmitMoves : Obligations.OuterLoopAndEmitMoves := by
  refine ⟨fun s u hp ha => ?_, fun s u lsub o hp ha => ?_⟩
  · have hstep := (step_of_no_agenda ha).trans (State.engineMove_of_scanOuter hp)
    have hsub : s.params.subLen = s.params.blockSize - 1 := rfl
    have hjump : s.params.jump < s.params.subLen := s.build.jump_lt_subLen
    refine ⟨fun hmore => ?_, fun hend => ?_⟩
    · rw [hstep, State.scanOuterMove_of_more (by omega)]; rfl
    · rw [hstep, State.scanOuterMove_of_end (by omega)]; rfl
  · have hstep := (step_of_no_agenda ha).trans (State.engineMove_of_scanEmit hp)
    refine ⟨fun hd => ?_, fun hd hr => ?_, fun hd hf => ?_⟩ <;> rw [hstep, State.scanEmitMove]
    · rw [State.emitThen_of_nothing _ _ hd]; rfl
    · rw [State.emitThen_of_room _ _ hr, State.emitFree, if_pos hd]; rfl
    · rw [State.emitThen_of_full _ _ hd hf, State.setPhase_of_phase hp]

end Sys2Proof.Machine
end

section
/-! SUPPORT. The scan stays in the buffer, and how many moves it makes (R161, R162). -/

namespace Sys2Proof.Machine

section Scan

variable {s t : State} {u lsub o : Nat}

/-! ### What the scan invariant says in each phase -/

/-- The sub-buffer lies in the buffer (R157). -/
theorem State.ScanInv.of_scanInner (hs : s.ScanInv) (hp : s.phase = .scanInner u lsub o) :
    lsub ≤ s.params.subLen ∧ u + lsub ≤ s.ls := by
  simpa only [State.ScanInv, hp] using hs

/-- The decoded window lies in the sub-buffer, and that in the buffer (R157, R158). -/
theorem State.ScanInv.of_scanEmit (hs : s.ScanInv) (hp : s.phase = .scanEmit u lsub o) :
    u + lsub ≤ s.ls ∧ o + s.params.win ≤ lsub := by
  obtain ⟨-, hls, hfit, -⟩ : lsub ≤ s.params.subLen ∧ u + lsub ≤ s.ls ∧ o + s.params.win ≤ lsub ∧ _ := by
    simpa only [State.ScanInv, hp] using hs
  exact ⟨hls, hfit⟩

/-- A window inside the sub-buffer lies in the buffer (R161). -/
theorem State.ScanInv.window_fits (hs : s.ScanInv) (hp : s.phase = .scanInner u lsub o) (hfit : o + s.params.win ≤ lsub) :
    u + o + s.params.win ≤ s.ls := by
  obtain ⟨-, hls⟩ := hs.of_scanInner hp
  omega

/-! ### Error flags -/

theorem State.scanOuterMove_errors (s : State) (u : Nat) : (s.scanOuterMove u).errors = s.errors := by
  rcases s.scanOuterMove_cases u with ⟨-, e⟩ | ⟨-, e⟩ <;> rw [e] <;> rfl

theorem State.scanEmitMove_errors (s : State) (u lsub o : Nat) : (s.scanEmitMove u lsub o).errors = s.errors :=
  s.emitThen_errors _ _

/-- The one error flag an inner move could set is CORR's RANGE_ERR, and its window fits. -/
theorem State.ScanInv.scanInnerMove_errors (hs : s.ScanInv) (hp : s.phase = .scanInner u lsub o) :
    (s.scanInnerMove u lsub o).errors = s.errors := by
  rcases s.scanInnerMove_cases u lsub o with ⟨hfit, -, e⟩ | ⟨hfit, -, e⟩ | ⟨-, e⟩ <;> rw [e]
  · exact (State.decodeFrame_errors _).trans (s.evaluate_errors (hs.window_fits hp hfit))
  · exact s.evaluate_errors (hs.window_fits hp hfit)
  · rfl

end Scan

/-- Settles O39, phase by phase. -/
theorem scanNeverOutOfRange : Obligations.ScanNeverOutOfRange := by
  intro s t hs hscan h
  refine ⟨?_, fun u lsub o hp hfit => hs.window_fits hp hfit⟩
  cases hp : s.phase with
  | scanOuter u =>
    cases (State.engineMove_of_scanOuter hp).symm.trans h
    exact s.scanOuterMove_errors u
  | scanInner u lsub o =>
    cases (State.engineMove_of_scanInner hp).symm.trans h
    exact hs.scanInnerMove_errors hp
  | scanEmit u lsub o =>
    cases (State.engineMove_of_scanEmit hp).symm.trans h
    exact s.scanEmitMove_errors u lsub o
  | _ => rw [hp] at hscan; cases hscan

/-! ### Engine runs -/

/-- A run of one more move than a run before. -/
theorem runEngine_succ {s t : State} {k : Nat} (h : step s = .next t) : runEngine (k + 1) s = runEngine k t := by
  simp only [runEngine, Host.Core.run, h]

/-- A run goes on from where its first part led. -/
theorem runEngine_add {s t : State} {j : Nat} (k : Nat) (h : runEngine j s = .next t) :
    runEngine (j + k) s = runEngine k t := by
  induction j generalizing s with
  | zero =>
    injection h with h
    rw [h, Nat.zero_add]
  | succ j ih =>
    rw [Nat.succ_add]
    cases hs : step s with
    | next r => rw [runEngine_succ hs] at h ⊢; exact ih h
    | fault f => simp only [runEngine, Host.Core.run, hs, reduceCtorEq] at h
    | refused f => simp only [runEngine, Host.Core.run, hs, reduceCtorEq] at h

/-- A run of j moves, and one more. -/
theorem runEngine_snoc {s t r : State} {j : Nat} (h : runEngine j s = .next t) (hstep : step t = .next r) :
    runEngine (j + 1) s = .next r := by
  rw [runEngine_add 1 h, runEngine_succ hstep]
  rfl

/-! ### What SCAN leaves alone until it ends -/

/-- The operations of SCAN keep the build, the buffer and the host's plan, and take nothing out of the FIFO (R155). -/
structure ScanKeeps (s t : State) : Prop where
  build : t.build = s.build
  mem : t.mem = s.mem
  accLen : t.accLen = s.accLen
  agenda : t.env.agenda = s.env.agenda
  fifo : s.fifo.length ≤ t.fifo.length

theorem ScanKeeps.refl (s : State) : ScanKeeps s s := ⟨rfl, rfl, rfl, rfl, Nat.le_refl _⟩

theorem ScanKeeps.trans {s t r : State} (h : ScanKeeps s t) (h' : ScanKeeps t r) : ScanKeeps s r where
  build := h'.build.trans h.build
  mem := h'.mem.trans h.mem
  accLen := h'.accLen.trans h.accLen
  agenda := h'.agenda.trans h.agenda
  fifo := h.fifo.trans h'.fifo

/-- Ls and the parameters are read off the build and the buffer. -/
theorem ScanKeeps.ls {s t : State} (h : ScanKeeps s t) : t.ls = s.ls := by rw [State.ls, State.ls, h.accLen]

theorem ScanKeeps.params {s t : State} (h : ScanKeeps s t) : t.params = s.params := congrArg Build.params h.build

theorem ScanKeeps.setPhase {s t : State} (h : ScanKeeps s t) (y : Phase) : ScanKeeps s (t.setPhase y) :=
  h.trans ⟨rfl, rfl, rfl, rfl, Nat.le_refl _⟩

theorem scanKeeps_evaluate (s : State) (a : Nat) : ScanKeeps s (s.evaluate a) where
  build := s.evaluate_build a
  mem := s.evaluate_mem a
  accLen := s.evaluate_accLen a
  agenda := by rw [s.evaluate_env a]
  fifo := by rw [s.evaluate_fifo a]

/-- DECODE speaks on the VER port, and leaves the host's plan alone (R184). -/
theorem State.decodeFrame_agenda (s : State) : s.decodeFrame.env.agenda = s.env.agenda := by
  have hconsult : s.consult.env.agenda = s.env.agenda := by
    unfold State.consult
    split <;> rfl
  rcases s.decodeFrame_cases with ⟨-, e⟩ | ⟨-, -, e⟩ | ⟨-, -, e⟩ <;> rw [e]
  · rfl
  · exact hconsult
  · exact hconsult

theorem scanKeeps_decodeFrame (s : State) : ScanKeeps s s.decodeFrame where
  build := s.decodeFrame_build
  mem := s.decodeFrame_mem
  accLen := s.decodeFrame_accLen
  agenda := s.decodeFrame_agenda
  fifo := by rw [s.decodeFrame_fifo]

/-- Sending a record lengthens the FIFO (R190). -/
theorem scanKeeps_sendRecord (s : State) : ScanKeeps s s.sendRecord :=
  ⟨rfl, rfl, rfl, rfl, (List.sublist_append_left ..).length_le⟩

theorem scanKeeps_emitFree (s : State) : ScanKeeps s s.emitFree := by
  unfold State.emitFree
  split
  · exact scanKeeps_sendRecord s
  · exact .refl s

/-! ### A sub-buffer with no match -/

/-- Whether a window that fits matches is decided by the build and the buffer (R124, R140, R150). -/
theorem ScanKeeps.evaluate_matched {s t : State} {a : Nat} (h : ScanKeeps s t) (hfit : a + s.params.win ≤ s.ls) :
    (t.evaluate a).flags.matched = (s.evaluate a).flags.matched := by
  have hfit' : a + t.params.win ≤ t.ls := by rwa [h.params, h.ls]
  have hBV {n : Nat} (hn : n < 96) : (t.evaluate a).BV n = (s.evaluate a).BV n := by
    rw [t.evaluate_BV hfit' hn, s.evaluate_BV hfit hn, State.softBits_congr h.mem h.build]
  have hmatched (r : State) : (r.evaluate a).flags.matched = (r.evaluate a).preambleMatch := rfl
  rw [hmatched, hmatched, Bool.eq_iff_iff, State.preambleMatch_iff, State.preambleMatch_iff, State.params_evaluate,
    State.params_evaluate, h.params]
  exact forall₂_congr fun i hi => by rw [hBV (by omega)]

/-- After j misses the cursor has moved on by j · JUMP, and CAND_OFFSET names the last window (R159). -/
theorem runEngine_misses {s : State} {u lsub j : Nat} (hp : s.phase = .scanInner u lsub 0) (ha : s.env.agenda = [])
    (hls : u + lsub ≤ s.ls) (hfit : ∀ i < j, i * s.params.jump + s.params.win ≤ lsub)
    (hmiss : ∀ i < j, (s.evaluate (u + i * s.params.jump)).flags.matched = false) :
    ∃ t, runEngine j s = .next t ∧ ScanKeeps s t ∧ t.phase = .scanInner u lsub (j * s.params.jump) ∧
      (0 < j → t.candOffset = BitVec.ofNat 28 (u + (j - 1) * s.params.jump)) := by
  induction j with
  | zero => exact ⟨s, rfl, .refl s, by rw [hp, Nat.zero_mul], nofun⟩
  | succ j ih =>
    obtain ⟨t, hrun, hkeeps, ht, -⟩ := ih (fun i hi => hfit i (by omega)) fun i hi => hmiss i (by omega)
    have hj := hfit j (by omega)
    have hwindow : u + j * s.params.jump + s.params.win ≤ s.ls := by omega
    have hmove : t.scanInnerMove u lsub (j * s.params.jump) =
        (t.evaluate (u + j * s.params.jump)).setPhase (.scanInner u lsub ((j + 1) * s.params.jump)) := by
      rw [State.scanInnerMove_of_miss (by rwa [hkeeps.params])
        ((hkeeps.evaluate_matched hwindow).trans (hmiss j (by omega))), hkeeps.params, Nat.succ_mul]
    have hstep := (step_of_no_agenda (hkeeps.agenda.trans ha)).trans (State.engineMove_of_scanInner ht)
    rw [hmove] at hstep
    exact ⟨_, runEngine_snoc hrun hstep, (hkeeps.trans (scanKeeps_evaluate t _)).setPhase _, rfl,
      fun _ => t.evaluate_candOffset (by rwa [hkeeps.params, hkeeps.ls])⟩

/-- Every inner step R162 counts has a window that fits. -/
theorem innerSteps_fit {lsub win jump i : Nat} (hi : i < if lsub < win then 0 else (lsub - win) / jump + 1) :
    i * jump + win ≤ lsub := by
  split at hi
  · omega
  · have := (Nat.mul_le_mul_right jump (Nat.le_of_lt_succ hi)).trans (Nat.div_mul_le_self (lsub - win) jump)
    omega

/-- After them no window fits. -/
theorem innerSteps_end {lsub win jump : Nat} (hjump : 0 < jump) :
    lsub < (if lsub < win then 0 else (lsub - win) / jump + 1) * jump + win := by
  split
  · omega
  · have := Nat.lt_div_mul_add (a := lsub - win) hjump
    rw [Nat.succ_mul]
    omega

/-- Settles O40, by `runEngine_misses`. -/
theorem innerStepCount : Obligations.InnerStepCount := by
  intro s u lsub hp ha hs k hmiss
  obtain ⟨-, hls⟩ := hs.of_scanInner hp
  obtain ⟨t, hrun, hkeeps, ht, hcand⟩ := runEngine_misses hp ha hls (fun i hi => innerSteps_fit hi) hmiss
  have hend : lsub < k * s.params.jump + s.params.win := innerSteps_end s.build.jump_pos
  have hstep := (step_of_no_agenda (hkeeps.agenda.trans ha)).trans (State.engineMove_of_scanInner ht)
  rw [State.scanInnerMove_of_end (by rwa [hkeeps.params]), Params.oStride_eq, hkeeps.params] at hstep
  exact ⟨t, hrun, ht, runEngine_snoc hrun hstep, hcand⟩

end Sys2Proof.Machine
end

section
/-! SUPPORT. A scan ends or holds: every move takes some of its work (R162, R277). -/

namespace Sys2Proof.Machine

section Progress

variable {s : State} {u lsub o : Nat}

/-! ### The work in each phase -/

theorem State.scanWork_of_scanOuter (hp : s.phase = .scanOuter u) :
    s.scanWork = (s.ls + s.params.oStride + 1 - u) * (2 * s.params.subLen + 10) + 1 := by
  simp only [State.scanWork, hp]

theorem State.scanWork_of_scanInner (hp : s.phase = .scanInner u lsub o) :
    s.scanWork = (s.ls + s.params.oStride - u) * (2 * s.params.subLen + 10) + 2 * (lsub + 1 - o) + 2 := by
  simp only [State.scanWork, hp]

theorem State.scanWork_of_scanEmit (hp : s.phase = .scanEmit u lsub o) :
    s.scanWork = (s.ls + s.params.oStride - u) * (2 * s.params.subLen + 10) + 2 * (lsub + 1 - o) + 1 := by
  simp only [State.scanWork, hp]

/-! ### Progress, phase by phase -/

/-- The scan is over: MODE is ACCUM and the buffer empty (R210). -/
def State.ScanOver (t : State) : Prop := t.phase = .accum ∧ t.mem = [] ∧ t.accLen = 0

/-- A move leads from s to t, still in a scan that meets its invariant, with less work left and the host's plan as it was. -/
structure ScanGoesOn (s t : State) : Prop where
  inv : t.ScanInv
  scanning : t.phase.scanning = true
  agenda : t.env.agenda = s.env.agenda
  work : t.scanWork < s.scanWork

/-- The outer loop draws a sub-buffer, whose inner loop fits in one round's share of the work, or ends (R155, R157). -/
theorem scanOuter_progress (hp : s.phase = .scanOuter u) :
    (s.scanOuterMove u).ScanOver ∨ ScanGoesOn s (s.scanOuterMove u) := by
  have hinv := s.scanInv_outer u
  rcases s.scanOuterMove_cases u with ⟨hu, e⟩ | ⟨-, e⟩ <;> rw [e] at hinv ⊢
  · refine .inr ⟨hinv, rfl, rfl, ?_⟩
    have hround : s.ls + s.params.oStride + 1 - u = s.ls + s.params.oStride - u + 1 := by omega
    rw [State.scanWork_of_scanOuter hp, State.scanWork_of_scanInner (State.setPhase_phase ..), State.ls_setPhase,
      State.params_setPhase, hround, Nat.add_one_mul (s.ls + s.params.oStride - u)]
    omega
  · exact .inl ⟨rfl, rfl, rfl⟩

/-- An inner move decodes a match, moves its cursor on, or ends the round (R156, R159, R160). -/
theorem scanInner_progress (hs : s.ScanInv) (hp : s.phase = .scanInner u lsub o) :
    ScanGoesOn s (s.scanInnerMove u lsub o) := by
  have hinv := hs.inner hp
  have hls := (hs.of_scanInner hp).2
  have hjump : 1 ≤ s.params.jump := s.build.jump_pos
  have hkeeps := scanKeeps_evaluate s (u + o)
  rcases s.scanInnerMove_cases u lsub o with ⟨hfit, -, e⟩ | ⟨hfit, -, e⟩ | ⟨-, e⟩ <;> rw [e] at hinv ⊢
  · have hkeeps' := hkeeps.trans (scanKeeps_decodeFrame _)
    refine ⟨hinv, rfl, hkeeps'.agenda, ?_⟩
    rw [State.scanWork_of_scanInner hp, State.scanWork_of_scanEmit (State.setPhase_phase ..), State.ls_setPhase,
      State.params_setPhase, hkeeps'.ls, hkeeps'.params]
    omega
  · refine ⟨hinv, rfl, hkeeps.agenda, ?_⟩
    rw [State.scanWork_of_scanInner hp, State.scanWork_of_scanInner (State.setPhase_phase ..), State.ls_setPhase,
      State.params_setPhase, hkeeps.ls, hkeeps.params]
    omega
  · refine ⟨hinv, rfl, rfl, ?_⟩
    have hrounds : s.ls + s.params.oStride + 1 - (u + s.params.oStride) ≤ s.ls + s.params.oStride - u := by
      rw [Params.oStride_eq]
      omega
    have := Nat.mul_le_mul_right (2 * s.params.subLen + 10) hrounds
    rw [State.scanWork_of_scanInner hp, State.scanWork_of_scanOuter (State.setPhase_phase ..), State.ls_setPhase,
      State.params_setPhase]
    omega

/-- The EMIT of a scan holds, or moves the cursor on past the window (R159, R190, R277). -/
theorem scanEmit_progress (hs : s.ScanInv) (hp : s.phase = .scanEmit u lsub o) :
    s.scanHolds ∨ ScanGoesOn s (s.scanEmitMove u lsub o) := by
  have hinv := hs.sent hp
  have hfit := (hs.of_scanEmit hp).2
  have hspan : s.params.span = 96 * s.params.p := rfl
  have htwo : 2 ≤ s.params.p := s.build.two_le_p
  have hwin : s.params.win = 97 * s.params.p := rfl
  have goesOn {r : State} (hr : ScanKeeps s r) (hinv : (r.setPhase (.scanInner u lsub (o + s.params.span))).ScanInv) :
      ScanGoesOn s (r.setPhase (.scanInner u lsub (o + s.params.span))) := by
    refine ⟨hinv, rfl, hr.agenda, ?_⟩
    rw [State.scanWork_of_scanEmit hp, State.scanWork_of_scanInner (State.setPhase_phase ..), State.ls_setPhase,
      State.params_setPhase, hr.ls, hr.params]
    omega
  rw [State.scanEmitMove] at hinv ⊢
  rcases s.emitThen_cases (.scanEmit u lsub o) (.scanInner u lsub (o + s.params.span)) with
    ⟨-, e⟩ | ⟨hd, -, e⟩ | ⟨hd, hf, -⟩
  · rw [e] at hinv ⊢
    exact .inr (goesOn (.refl s) hinv)
  · rw [e] at hinv ⊢
    exact .inr (goesOn (scanKeeps_sendRecord s) hinv)
  · exact .inl ⟨⟨u, lsub, o, hp⟩, hd, hf⟩

/-- A scan holds, or its next move ends it or goes on with less work. -/
theorem scan_progress (hs : s.ScanInv) (hscan : s.phase.scanning = true) :
    s.scanHolds ∨ ∃ t, s.engineMove = .next t ∧ ((t.ScanOver ∧ 0 < s.scanWork) ∨ ScanGoesOn s t) := by
  cases hp : s.phase with
  | scanOuter u =>
    have hpos : 0 < s.scanWork := by rw [State.scanWork_of_scanOuter hp]; exact Nat.succ_pos _
    exact .inr ⟨_, State.engineMove_of_scanOuter hp, (scanOuter_progress hp).imp_left fun h => ⟨h, hpos⟩⟩
  | scanInner u lsub o => exact .inr ⟨_, State.engineMove_of_scanInner hp, .inr (scanInner_progress hs hp)⟩
  | scanEmit u lsub o =>
    exact (scanEmit_progress hs hp).imp_right fun h => ⟨_, State.engineMove_of_scanEmit hp, .inr h⟩
  | _ => rw [hp] at hscan; cases hscan

end Progress

/-- Settles O41, by induction on the work left: `scan_progress`. -/
theorem scanEndsOrHolds : Obligations.ScanEndsOrHolds := by
  intro s hs hscan ha
  induction hw : s.scanWork using Nat.strong_induction_on generalizing s with
  | _ w ih =>
    rcases scan_progress hs hscan with hholds | ⟨t, hmove, hnext⟩
    · exact ⟨0, s, Nat.zero_le _, rfl, .inr hholds⟩
    have hstep : step s = .next t := (step_of_no_agenda ha).trans hmove
    rcases hnext with ⟨hover, hpos⟩ | hon
    · exact ⟨1, t, by omega, runEngine_succ hstep, .inl hover⟩
    · have hless := hon.work
      obtain ⟨k, r, hk, hrun, hend⟩ :=
        ih t.scanWork (by omega) t hon.inv hon.scanning (hon.agenda.trans ha) rfl
      exact ⟨k + 1, r, by omega, (runEngine_succ hstep).trans hrun, hend⟩

end Sys2Proof.Machine
end

section
/-! SUPPORT. The engine's moves run SCAN as R155 writes it: each loop of Safety is reached move by move. -/

namespace Sys2Proof.Machine

section Runs

variable {s t : State} {u lsub o fuel : Nat}

/-! ### Reaching a state by engine moves -/

/-- Some number of engine moves with nothing planned leads from s to t. -/
def Reaches (s t : State) : Prop := ∃ k, runEngine k s = .next t

theorem Reaches.trans {r : State} (h : Reaches s t) (h' : Reaches t r) : Reaches s r := by
  obtain ⟨j, hj⟩ := h
  obtain ⟨k, hk⟩ := h'
  exact ⟨j + k, (runEngine_add k hj).trans hk⟩

theorem reaches_of_engineMove (ha : s.env.agenda = []) (h : s.engineMove = .next t) : Reaches s t :=
  ⟨1, runEngine_succ ((step_of_no_agenda ha).trans h)⟩

/-! ### The moves of the scan do not read the phase -/

theorem State.scanOuterMove_setPhase (s : State) (y : Phase) (u : Nat) :
    (s.setPhase y).scanOuterMove u = s.scanOuterMove u := rfl

theorem State.scanInnerMove_setPhase (s : State) (y : Phase) (u lsub o : Nat) :
    (s.setPhase y).scanInnerMove u lsub o = s.scanInnerMove u lsub o := by
  simp only [State.scanInnerMove, State.evaluate_setPhase, State.decodeFrame_setPhase, State.setPhase_setPhase,
    State.params_setPhase, State.setPhase_flags]

theorem reaches_scanOuterMove (ha : s.env.agenda = []) (u : Nat) :
    Reaches (s.setPhase (.scanOuter u)) (s.scanOuterMove u) := by
  rw [← s.scanOuterMove_setPhase (.scanOuter u)]
  exact reaches_of_engineMove (s := s.setPhase (.scanOuter u)) ha (State.engineMove_of_scanOuter rfl)

theorem reaches_scanInnerMove (ha : s.env.agenda = []) (u lsub o : Nat) :
    Reaches (s.setPhase (.scanInner u lsub o)) (s.scanInnerMove u lsub o) := by
  rw [← s.scanInnerMove_setPhase (.scanInner u lsub o)]
  exact reaches_of_engineMove (s := s.setPhase (.scanInner u lsub o)) ha (State.engineMove_of_scanInner rfl)

/-- An EMIT whose record finds room sends it, and the cursor moves on past the window (R159, R190). -/
theorem reaches_emitFree (ha : s.env.agenda = []) (hroom : s.emitFree.fifo.length ≤ s.params.recDepth) (u lsub o : Nat) :
    Reaches (s.setPhase (.scanEmit u lsub o)) (s.emitFree.setPhase (.scanInner u lsub (o + s.params.span))) := by
  have hmove : s.scanEmitMove u lsub o = s.emitFree.setPhase (.scanInner u lsub (o + s.params.span)) := by
    rw [State.scanEmitMove]
    cases hd : s.flags.decOk with
    | false => rw [State.emitThen_of_nothing _ _ hd, State.emitFree, hd]; rfl
    | true =>
      refine State.emitThen_of_room _ _ ?_
      rw [State.emitFree, if_pos hd, State.sendRecord_eq, State.setFlags_fifo, State.setFifo_fifo,
        List.length_append] at hroom
      exact hroom
  rw [← hmove, State.scanEmitMove, ← s.emitThen_setPhase (.scanEmit u lsub o)]
  exact reaches_of_engineMove (s := s.setPhase (.scanEmit u lsub o)) ha (State.engineMove_of_scanEmit rfl)

/-! ### The inner loop -/

/-- Where no window fits the inner loop of R155 is over, whatever its bound. -/
theorem State.innerLoop_of_end (h : lsub < o + s.params.win) : State.innerLoop fuel u lsub o s = s := by
  cases fuel with
  | zero => rfl
  | succ fuel => exact if_neg (Nat.not_le.mpr h)

/-- A match of the inner loop of R155. -/
theorem State.innerLoop_of_match (hfit : o + s.params.win ≤ lsub) (hm : (s.evaluate (u + o)).flags.matched = true) :
    State.innerLoop (fuel + 1) u lsub o s =
      State.innerLoop fuel u lsub (o + s.params.span) (s.evaluate (u + o)).decodeFrame.emitFree :=
  (if_pos hfit).trans (if_pos hm)

/-- A miss of the inner loop of R155. -/
theorem State.innerLoop_of_miss (hfit : o + s.params.win ≤ lsub) (hm : (s.evaluate (u + o)).flags.matched = false) :
    State.innerLoop (fuel + 1) u lsub o s =
      State.innerLoop fuel u lsub (o + s.params.jump) (s.evaluate (u + o)) :=
  (if_pos hfit).trans (if_neg (Bool.eq_false_iff.mp hm))

theorem scanKeeps_innerLoop (fuel u lsub o : Nat) (s : State) : ScanKeeps s (State.innerLoop fuel u lsub o s) := by
  induction fuel generalizing o s with
  | zero => exact .refl s
  | succ fuel ih =>
    by_cases hfit : o + s.params.win ≤ lsub
    · have hkeeps := scanKeeps_evaluate s (u + o)
      cases hm : (s.evaluate (u + o)).flags.matched with
      | true =>
        rw [State.innerLoop_of_match hfit hm]
        exact ((hkeeps.trans (scanKeeps_decodeFrame _)).trans (scanKeeps_emitFree _)).trans (ih _ _)
      | false =>
        rw [State.innerLoop_of_miss hfit hm]
        exact hkeeps.trans (ih _ _)
    · rw [State.innerLoop_of_end (Nat.not_le.mp hfit)]
      exact .refl s

/-- With a bound that suffices and room for its records, the engine runs the inner loop of R155 and moves the outer cursor
on. -/
theorem reaches_innerLoop (ha : s.env.agenda = []) (hfuel : lsub < o + fuel)
    (hroom : (State.innerLoop fuel u lsub o s).fifo.length ≤ s.params.recDepth) :
    Reaches (s.setPhase (.scanInner u lsub o))
      ((State.innerLoop fuel u lsub o s).setPhase (.scanOuter (u + s.params.oStride))) := by
  induction fuel generalizing o s with
  | zero =>
    have hmove := reaches_scanInnerMove ha u lsub o
    rwa [State.scanInnerMove_of_end (by omega)] at hmove
  | succ fuel ih =>
    have hmove := reaches_scanInnerMove ha u lsub o
    by_cases hfit : o + s.params.win ≤ lsub
    · have hkeeps := scanKeeps_evaluate s (u + o)
      have hjump : 1 ≤ s.params.jump := s.build.jump_pos
      have hspan : s.params.span = 96 * s.params.p := rfl
      have hp : 2 ≤ s.params.p := s.build.two_le_p
      cases hm : (s.evaluate (u + o)).flags.matched with
      | true =>
        have hdecode := hkeeps.trans (scanKeeps_decodeFrame _)
        have hemit := hdecode.trans (scanKeeps_emitFree _)
        rw [State.innerLoop_of_match hfit hm] at hroom ⊢
        rw [State.scanInnerMove_of_match hfit hm] at hmove
        have hsent := reaches_emitFree (hdecode.agenda.trans ha)
          (by rw [hdecode.params]; exact (scanKeeps_innerLoop ..).fifo.trans hroom) u lsub o
        have hrest := ih (o := o + s.params.span) (hemit.agenda.trans ha) (by omega) (by rwa [hemit.params])
        rw [hdecode.params] at hsent
        rw [hemit.params] at hrest
        exact (hmove.trans hsent).trans hrest
      | false =>
        rw [State.innerLoop_of_miss hfit hm] at hroom ⊢
        rw [State.scanInnerMove_of_miss hfit hm] at hmove
        have hrest := ih (o := o + s.params.jump) (hkeeps.agenda.trans ha) (by omega) (by rwa [hkeeps.params])
        rw [hkeeps.params] at hrest
        exact hmove.trans hrest
    · have hend := Nat.not_le.mp hfit
      rw [State.scanInnerMove_of_end hend] at hmove
      rwa [State.innerLoop_of_end hend]

/-! ### The outer loop -/

/-- Where the outer test fails the outer loop of R155 is over, whatever its bound. -/
theorem State.outerLoop_of_end (h : s.ls < u + (s.params.subLen - s.params.jump)) : State.outerLoop fuel u s = s := by
  cases fuel with
  | zero => rfl
  | succ fuel => exact if_neg (Nat.not_le.mpr h)

/-- A round of the outer loop of R155. -/
theorem State.outerLoop_of_more (h : u + (s.params.subLen - s.params.jump) ≤ s.ls) :
    State.outerLoop (fuel + 1) u s = State.outerLoop fuel (u + s.params.oStride)
      (State.innerLoop (min s.params.subLen (s.ls - u) + 1) u (min s.params.subLen (s.ls - u)) 0 s) := by
  rw [Params.oStride_eq]
  exact if_pos h

theorem scanKeeps_outerLoop (fuel u : Nat) (s : State) : ScanKeeps s (State.outerLoop fuel u s) := by
  induction fuel generalizing u s with
  | zero => exact .refl s
  | succ fuel ih =>
    by_cases hmore : u + (s.params.subLen - s.params.jump) ≤ s.ls
    · rw [State.outerLoop_of_more hmore]
      exact (scanKeeps_innerLoop ..).trans (ih _ _)
    · rw [State.outerLoop_of_end (Nat.not_le.mp hmore)]
      exact .refl s

/-- With a bound that suffices and room for its records, the engine runs the outer loop of R155, clears the buffer and goes
back to ACCUM (R210). -/
theorem reaches_outerLoop (ha : s.env.agenda = []) (hfuel : s.ls < u + fuel)
    (hroom : (State.outerLoop fuel u s).fifo.length ≤ s.params.recDepth) :
    Reaches (s.setPhase (.scanOuter u)) ((State.outerLoop fuel u s).bufClear.setPhase .accum) := by
  induction fuel generalizing u s with
  | zero =>
    have hmove := reaches_scanOuterMove ha u
    rwa [State.scanOuterMove_of_end (by omega)] at hmove
  | succ fuel ih =>
    have hmove := reaches_scanOuterMove ha u
    by_cases hmore : u + (s.params.subLen - s.params.jump) ≤ s.ls
    · have hstride : 1 ≤ s.params.oStride := by
        have : 1 ≤ s.params.jump := s.build.jump_pos
        rw [Params.oStride_eq]
        omega
      rw [State.outerLoop_of_more hmore] at hroom ⊢
      rw [State.scanOuterMove_of_more hmore] at hmove
      have hkeeps := scanKeeps_innerLoop (min s.params.subLen (s.ls - u) + 1) u (min s.params.subLen (s.ls - u)) 0 s
      have hinner := reaches_innerLoop ha (by omega) ((scanKeeps_outerLoop ..).fifo.trans hroom)
      have hrest := ih (u := u + s.params.oStride) (hkeeps.agenda.trans ha) (by rw [hkeeps.ls]; omega)
        (by rwa [hkeeps.params])
      exact (hmove.trans hinner).trans hrest
    · have hend := Nat.not_le.mp hmore
      rw [State.scanOuterMove_of_end hend] at hmove
      rwa [State.outerLoop_of_end hend]

end Runs

/-- Settles O42: SCAN() is the outer loop from 0, by `reaches_outerLoop`. -/
theorem processRunsTheScan : Obligations.ProcessRunsTheScan := by
  intro s _ ha hroom
  exact reaches_outerLoop ha (by omega) hroom

end Sys2Proof.Machine
end

section
/-! SUPPORT. DECODE by case, and what its field registers hold as bits of the window (R180 to R187). -/

namespace Sys2Proof.Machine

/-! ### The check and DECODE's outcomes -/

/-- Without a verifier every payload is accepted (R181). -/
theorem State.verdict_of_disabled {s : State} (h : s.params.verifyMode = .disabled) : s.verdict = true := by
  simp only [State.verdict, h]

/-- Without a verifier nothing is sent to one (R50, R181). -/
theorem State.consult_of_disabled {s : State} (h : s.params.verifyMode = .disabled) : s.consult = s := by
  simp only [State.consult, h]

/-- With a verifier the verdict is its answer on the payload (R181). -/
theorem State.verdict_of_enabled {s : State} (h : s.params.verifyMode = .enabled) :
    s.verdict = Config.verify s.payload := by
  simp only [State.verdict, h]

/-- With a verifier the payload goes out on the VER port (R50, R181). -/
theorem State.consult_of_enabled {s : State} (h : s.params.verifyMode = .enabled) : s.consult = s.askVerifier := by
  simp only [State.consult, h]

/-- DECODE without a match (R184). -/
theorem State.decodeFrame_of_noMatch {s : State} (hm : s.flags.matched = false) :
    s.decodeFrame = s.setFlags s.flags.noCandidate := by
  simp only [State.decodeFrame, State.decodeWith, hm]

/-- DECODE of a match the check accepts (R184, R187). -/
theorem State.decodeFrame_of_accept {s : State} (hm : s.flags.matched = true) (hv : s.verdict = true) :
    s.decodeFrame = (s.consult.setFields s.extracted).setFlags
      (s.flags.accepted (decide (s.params.verifyMode = .disabled))) := by
  simp only [State.decodeFrame, State.decodeWith, hm, hv]

/-- DECODE of a match the check rejects (R184). -/
theorem State.decodeFrame_of_reject {s : State} (hm : s.flags.matched = true) (hv : s.verdict = false) :
    s.decodeFrame = s.consult.setFlags s.flags.rejected := by
  simp only [State.decodeFrame, State.decodeWith, hm, hv]

/-- DECODE of a match without a verifier (R184, R187). -/
theorem State.decodeFrame_of_disabled {s : State} (hm : s.flags.matched = true) (hv : s.params.verifyMode = .disabled) :
    s.decodeFrame = (s.setFields s.extracted).setFlags (s.flags.accepted true) := by
  rw [State.decodeFrame_of_accept hm (State.verdict_of_disabled hv), State.consult_of_disabled hv, decide_eq_true hv]

/-- DECODE of a match with a verifier: the payload goes out, and the answer says what is written (R181, R184, R187). -/
theorem State.decodeFrame_of_enabled {s : State} (hm : s.flags.matched = true) (hv : s.params.verifyMode = .enabled) :
    s.decodeFrame =
      (s.askVerifier.setFields (if Config.verify s.payload then s.extracted else s.fields)).setFlags
        (if Config.verify s.payload then s.flags.accepted false else s.flags.rejected) := by
  have hverdict := State.verdict_of_enabled hv
  have hconsult := State.consult_of_enabled hv
  cases hanswer : Config.verify s.payload with
  | true => rw [State.decodeFrame_of_accept hm (hverdict.trans hanswer), hconsult, hv]; rfl
  | false => rw [State.decodeFrame_of_reject hm (hverdict.trans hanswer), hconsult]; rfl

/-- In ACCUM the command DECODE is DECODE (R85, R184). -/
theorem exec_decode_of_accum {s : State} (hm : s.mode = .accum) : exec .decode s = .next s.decodeFrame :=
  exec_of_accum nofun (Phase.mode_eq_accum.mp hm)

/-! ### Window bits -/

/-- A sub-sequence inside BV has the length R10 gives it. -/
theorem State.length_span_bits (s : State) {a b : Nat} (hb : b ≤ 96) : (span s.bits a b).length = b - a :=
  length_span _ (hb.trans s.length_bits.ge)

/-- A sub-sequence of BV is the list of its bits (R10, R24). -/
theorem State.span_bits_eq_map (s : State) {a b : Nat} (hb : b ≤ 96) :
    span s.bits a b = (List.range' a (b - a)).map s.BV := by
  have hlen := s.length_span_bits (a := a) hb
  refine List.ext_getElem (by simp [hlen]) fun i h1 h2 => ?_
  rw [← List.getD_eq_getElem _ false h1, span_getD _ (hlen ▸ h1), List.getElem_map, List.getElem_range', one_mul]
  rfl

/-- Windows that agree on bits a .. b − 1 have the same sub-sequence there. -/
theorem State.span_bits_congr {s t : State} {a b : Nat} (hb : b ≤ 96) (h : ∀ n, a ≤ n → n < b → t.BV n = s.BV n) :
    span t.bits a b = span s.bits a b := by
  rw [s.span_bits_eq_map hb, t.span_bits_eq_map hb]
  refine List.map_congr_left fun n hn => ?_
  obtain ⟨hlo, hhi⟩ := List.mem_range'_1.mp hn
  exact h n hlo (by omega)

/-- A register as wide as the sequence holds its val (R11). -/
theorem toNat_ofNat_val {l : List Bool} {k : Nat} (h : l.length = k) : (BitVec.ofNat k (val l)).toNat = val l := by
  rw [BitVec.toNat_ofNat, Nat.mod_eq_of_lt (h ▸ val_lt l)]

/-! ### The extracted fields -/

/-- ALT_ID's low bits lie between BV[24] and BV[80], for either start (R186). -/
theorem altStart_bit_bounds (a : AltStart) : 24 ≤ a.bit ∧ a.bit + 24 ≤ 80 := by
  cases a <;> decide

/-- The fields as bits of the window: R185's column of BV positions, which are those of dc less its padding (R182, R184). -/
theorem State.extracted_eq (s : State) :
    s.extracted =
      { meterId := BitVec.ofNat 26 (val (span s.bits 21 23 ++ span s.bits 56 80))
        physTamper := BitVec.ofNat 2 (val (span s.bits 24 26))
        meterType := BitVec.ofNat 4 (val (span s.bits 26 30))
        encTamper := BitVec.ofNat 2 (val (span s.bits 30 32))
        consumption := BitVec.ofNat 24 (val (span s.bits 32 56))
        altId := BitVec.ofNat 26
          (val (span s.bits 21 23 ++ span s.bits s.params.altStart.bit (s.params.altStart.bit + 24))) } := by
  have hdc {a b : Nat} (ha : 180 ≤ a ∧ a ≤ b ∧ b ≤ 255) : span s.dc a b = span s.bits (a - 159) (b - 159) :=
    s.span_dc ha.1 ha.2.1 ha.2.2
  rw [State.extracted, hdc (a := 180) (b := 182) (by decide), hdc (a := 215) (b := 239) (by decide),
    hdc (a := 183) (b := 185) (by decide), hdc (a := 185) (b := 189) (by decide), hdc (a := 189) (b := 191) (by decide),
    hdc (a := 191) (b := 215) (by decide)]

/-- The fields depend on bits 21, 22 and 24 .. 79 of the window alone (R184). -/
theorem State.extracted_congr_of_bits {s t : State} (hb : t.build = s.build)
    (h : ∀ n, 21 ≤ n → n < 80 → n ≠ 23 → t.BV n = s.BV n) : t.extracted = s.extracted := by
  obtain ⟨hlo, hhi⟩ := altStart_bit_bounds s.params.altStart
  have hspan {a b : Nat} (hab : 21 ≤ a ∧ b ≤ 23 ∨ 24 ≤ a ∧ b ≤ 80) : span t.bits a b = span s.bits a b :=
    State.span_bits_congr (by omega) fun n h1 h2 => h n (by omega) (by omega) (by omega)
  rw [t.extracted_eq, s.extracted_eq, State.params, hb, hspan (a := 21) (b := 23) (by decide),
    hspan (a := 56) (b := 80) (by decide), hspan (a := 24) (b := 26) (by decide), hspan (a := 26) (b := 30) (by decide),
    hspan (a := 30) (b := 32) (by decide), hspan (a := 32) (b := 56) (by decide), hspan (.inr ⟨hlo, hhi⟩)]

/-! ### The statements -/

/-- Settles O22: the effect by `State.decodeFrame_of_disabled`, the fields by `State.extracted_eq`, each as wide as its bits. -/
theorem decodeExtractsFields : Obligations.DecodeExtractsFields := by
  intro s hmode hm hv
  obtain ⟨-, hstart⟩ := altStart_bit_bounds s.params.altStart
  have hid (a : Nat) (ha : a + 24 ≤ 96) : (span s.bits 21 23 ++ span s.bits a (a + 24)).length = 26 := by
    rw [List.length_append, s.length_span_bits (by decide), s.length_span_bits ha, Nat.add_sub_cancel_left]
  refine ⟨s.decodeFrame, exec_decode_of_accum hmode, ?_⟩
  rw [State.decodeFrame_of_disabled hm hv, s.extracted_eq]
  refine ⟨?_, ?_, ?_, ?_, ?_, ?_, fun h56 => ?_, fun _ => rfl, rfl⟩
  · exact toNat_ofNat_val (hid 56 (by decide))
  · exact toNat_ofNat_val (s.length_span_bits (by decide))
  · exact toNat_ofNat_val (s.length_span_bits (by decide))
  · exact toNat_ofNat_val (s.length_span_bits (by decide))
  · exact toNat_ofNat_val (s.length_span_bits (by decide))
  · exact toNat_ofNat_val (hid _ (by omega))
  · rw [h56]; rfl

/-- Settles O23, by `State.decodeFrame_of_enabled`; the payload's bits are `State.payload`'s definition. -/
theorem decodeAsksVerifier : Obligations.DecodeAsksVerifier := by
  intro s hmode hm hv
  refine ⟨s.decodeFrame, exec_decode_of_accum hmode, ?_⟩
  rw [State.decodeFrame_of_enabled hm hv]
  exact ⟨rfl, fun i hi => tabulate_getD 75 _ _ hi, rfl⟩

/-- Settles O25: the fields by `State.extracted_congr_of_bits`, and the flags do not read the window. -/
theorem unextractedBitsDoNotMatter : Obligations.UnextractedBitsDoNotMatter := by
  intro s v t t' hmode hm hv hbits ht ht'
  obtain rfl : t = s.decodeFrame := eq_effect_of_exec hmode ht nofun
  obtain rfl : t' = (s.setBv v).decodeFrame := eq_effect_of_exec (s := s.setBv v) hmode ht' nofun
  rw [State.decodeFrame_of_disabled hm hv, State.decodeFrame_of_disabled (s := s.setBv v) hm hv]
  exact ⟨State.extracted_congr_of_bits rfl hbits, rfl⟩

/-- Settles O24, by `State.decodeFrame_of_noMatch`. -/
theorem decodeNeedsMatch : Obligations.DecodeNeedsMatch := by
  intro s hmode hm
  rw [exec_decode_of_accum hmode, State.decodeFrame_of_noMatch hm]
  rfl

end Sys2Proof.Machine
end

section
/-! SUPPORT. EMIT as a command, its hold, the host's take, and the words of a record (R190, R195, R235, R277). -/

namespace Sys2Proof.Machine

/-- In ACCUM the command EMIT is EMIT, holding in its own phase (R85, R190). -/
theorem exec_emit_of_accum {s : State} (hm : s.mode = .accum) : exec .emit s = .next (s.emitThen .emitHold .accum) :=
  exec_of_accum nofun (Phase.mode_eq_accum.mp hm)

/-- EMIT of an accepted decode with room in the FIFO sends its record (R190). -/
theorem State.emitThen_of_send {s : State} (hold done : Phase) (hd : s.flags.decOk = true)
    (hr : s.fifo.length < s.params.recDepth) : s.emitThen hold done = s.sendRecord.setPhase done := by
  rw [State.emitThen_of_room _ _ hr, State.emitFree, if_pos hd]

/-- While EMIT holds, the engine's move tries it again (R277). -/
theorem State.engineMove_of_emitHold {s : State} (h : s.phase = .emitHold) :
    s.engineMove = .next (s.emitThen .emitHold .accum) := by
  simp only [State.engineMove, h]

/-- The planned move that ends a hold sends the record it held back (R190, R277). -/
theorem step_of_emitHold_room {s : State} {rest : List Event} (hp : s.phase = .emitHold) (hd : s.flags.decOk = true)
    (hr : s.fifo.length < s.params.recDepth) (ha : s.env.agenda = .engine :: rest) :
    step s = .next { s with
      phase := .accum
      fifo := s.fifo ++ [s.record]
      flags := s.flags.emitted
      env := { s.env with agenda := rest } } := by
  rw [step_of_engine ha, State.engineMove_of_emitHold (s := s.setAgenda rest) hp,
    State.emitThen_of_send (s := s.setAgenda rest) _ _ hd hr]
  rfl

/-- A take with a record there moves the head record to the host as its three words (R195, R235). -/
theorem step_of_takeRec {s : State} {r : Record} {rs : List Record} {rest : List Event} (hf : s.fifo = r :: rs)
    (ha : s.env.agenda = .takeRec :: rest) :
    step s = .next { s with fifo := rs, env := { s.env with agenda := rest, recGot := s.env.recGot ++ [r.words] } } := by
  simp only [step, ha, State.turn, hf]
  rfl

/-- Settles O26: `State.emitThen_of_nothing` without an accepted decode, `State.emitThen_of_send` with one. -/
theorem emitSendsRecord : Obligations.EmitSendsRecord := by
  refine ⟨fun s hmode hd => ?_, fun s hmode hd hr => ?_⟩ <;> have hp : s.phase = .accum := Phase.mode_eq_accum.mp hmode
  · rw [exec_emit_of_accum hmode, State.emitThen_of_nothing _ _ hd, State.setPhase_of_phase hp]
  · have hexec : exec .emit s = .next s.sendRecord := by
      rw [exec_emit_of_accum hmode, State.emitThen_of_send _ _ hd hr, State.setPhase_of_phase (s := s.sendRecord) hp]
    exact ⟨_, s.record, hexec, rfl, rfl, rfl, rfl, rfl, rfl, rfl, rfl, fun _ => rfl, rfl⟩

/-- Settles O27: the hold starts and stays by `State.emitThen_of_full`; the take of `step_of_takeRec` makes room, so that the
next move is `State.emitThen_of_send`. -/
theorem emitHoldsWhileFull : Obligations.EmitHoldsWhileFull := by
  refine ⟨fun s hmode hd hfull => ?_, fun s hp hd hfull ha => ?_, fun s r rs rest hp hd hf hfull ha => ?_⟩
  · have hexec : exec .emit s = .next (s.setPhase .emitHold) := by
      rw [exec_emit_of_accum hmode, State.emitThen_of_full _ _ hd hfull.ge]
    exact ⟨_, hexec, rfl, rfl⟩
  · rw [step_of_no_agenda ha, State.engineMove_of_emitHold hp, State.emitThen_of_full _ _ hd hfull,
      State.setPhase_of_phase hp]
  · have hroom : rs.length < s.params.recDepth := by
      rw [← hfull, hf]
      exact Nat.lt_succ_self _
    exact ⟨_, _, step_of_takeRec hf ha, step_of_emitHold_room hp hd hroom rfl, rfl⟩

/-- A bit above the lower part of a word is one of its upper part. -/
theorem getLsbD_append_of_le {n m i : Nat} {x : BitVec n} {y : BitVec m} (h : m ≤ i) :
    (x ++ y).getLsbD i = x.getLsbD (i - m) := by
  rw [BitVec.getLsbD_append, if_neg (Nat.not_lt.mpr h)]

/-- Settles O28: a field of a word is reached by dropping those below it (`BitVec.extractLsb'_append_eq_of_le`) and those above
it (`BitVec.extractLsb'_append_eq_right`). -/
theorem recordWordLayout : Obligations.RecordWordLayout := by
  intro r
  refine ⟨?_, ?_, ?_, ?_, ?_, ?_, ?_, ?_, ?_, ?_⟩
  · exact BitVec.extractLsb'_append_eq_right
  · exact (BitVec.extractLsb'_append_eq_of_le (by decide)).trans BitVec.extractLsb'_append_eq_right
  · exact (BitVec.extractLsb'_append_eq_of_le (by decide)).trans BitVec.extractLsb'_append_eq_left
  · exact BitVec.extractLsb'_append_eq_right
  · exact (BitVec.extractLsb'_append_eq_of_le (by decide)).trans BitVec.extractLsb'_append_eq_right
  · exact (BitVec.extractLsb'_append_eq_of_le (by decide)).trans <|
      (BitVec.extractLsb'_append_eq_of_le (by decide)).trans BitVec.extractLsb'_append_eq_right
  · exact (getLsbD_append_of_le (by decide)).trans <| (getLsbD_append_of_le (by decide)).trans <|
      (getLsbD_append_of_le (by decide)).trans (getLsbD_append_bit_zero _ _)
  · exact (BitVec.extractLsb'_append_eq_of_le (by decide)).trans <|
      (BitVec.extractLsb'_append_eq_of_le (by decide)).trans <|
        (BitVec.extractLsb'_append_eq_of_le (by decide)).trans BitVec.extractLsb'_append_eq_left
  · exact BitVec.extractLsb'_append_eq_right
  · exact BitVec.extractLsb'_append_eq_left

end Sys2Proof.Machine
end

section
/-! SUPPORT. PROC, the blocks on their way through the PASS port, and the changes of MODE (R210, R213 to R218). -/

namespace Sys2Proof.Machine

/-- Settles O36: in ACCUM the command PROC has its effect, `State.startProcess`, which sets the phase alone. -/
theorem procStartsProcess : Obligations.ProcStartsProcess := fun s hm =>
  ⟨s.startProcess, exec_of_accum nofun (Phase.mode_eq_accum.mp hm), rfl, fun _ => rfl, rfl⟩

/-! ### The phase a command ends in -/

/-- In ACCUM a command ends in ACCUM, but for PROC and an EMIT that finds the FIFO full (R190, R216). -/
theorem effect_phase {i : Instr} {s : State} (h : s.phase = .accum) :
    (effect i s).phase = .accum ∨ (i = .proc ∧ (effect i s).phase = .scanOuter 0) ∨
      (i = .emit ∧ s.flags.decOk = true ∧ s.params.recDepth ≤ s.fifo.length ∧ (effect i s).phase = .emitHold) := by
  cases i with
  | corr a => exact .inl ((s.corr_phase a).trans h)
  | decode => exact .inl (s.decodeFrame_phase.trans h)
  | emit =>
    rw [effect]
    rcases s.emitThen_cases .emitHold .accum with ⟨-, e⟩ | ⟨-, -, e⟩ | ⟨hd, hf, e⟩ <;> rw [e]
    · exact .inl rfl
    · exact .inl rfl
    · exact .inr (.inr ⟨rfl, hd, hf, rfl⟩)
  | proc => exact .inr (.inl ⟨rfl, rfl⟩)
  | sreset => exact .inl rfl
  | nop | slice | pmatch | clear => exact .inl h

/-- In ACCUM every command answers its effect (R85, R231). -/
theorem exec_eq_effect {i : Instr} {s : State} (h : s.phase = .accum) : exec i s = .next (effect i s) := by
  by_cases hi : i = .sreset
  · subst hi; rfl
  · exact exec_of_accum hi h

/-! ### The engine's move outside SCAN -/

/-- In ACCUM with nothing offered the engine makes no move (R100). -/
theorem State.engineMove_of_no_offer {s : State} (h : s.phase = .accum) (ho : s.env.offers = []) : s.engineMove = .next s := by
  simp only [State.engineMove, h, ho]

/-- The move that performs an accepted command has that command's effect (R275). -/
theorem State.engineMove_of_waiting {s : State} {i : Instr} (h : s.phase = .busy i) :
    s.engineMove = .next (effect i (s.setPhase .accum)) :=
  (State.engineMove_of_busy h).trans (exec_eq_effect rfl)

/-- The move after PassOut is the end of the PUSH (R100). -/
theorem State.engineMove_of_passTaken {s : State} {b : Block} (h : s.phase = .passTaken b) :
    s.engineMove = .next (s.finishPush b) := by
  simp only [State.engineMove, h]

/-! ### The blocks on their way to the host -/

/-- The blocks the host has received, the one on the PASS port and those still offered, oldest first (R214, R218). -/
def State.passStream (s : State) : List Block := s.env.passGot ++ s.phase.onPass ++ s.env.offers

section Stream

variable {s t : State}

/-- A change of phase that leaves the PASS port alone keeps the sequence. -/
theorem State.passStream_setPhase {y : Phase} (h : y.onPass = s.phase.onPass) : (s.setPhase y).passStream = s.passStream := by
  simp only [State.passStream, State.setPhase_phase, State.setPhase_env, h]

/-- CORR and an evaluation leave the ports alone (R124, R158). -/
theorem State.corr_passStream (s : State) (a : Nat) : (s.corr a).passStream = s.passStream := by
  simp only [State.passStream, State.corr_phase, State.corr_env]

theorem State.evaluate_passStream (s : State) (a : Nat) : (s.evaluate a).passStream = s.passStream := by
  simp only [State.passStream, State.evaluate_phase, State.evaluate_env]

/-- DECODE speaks on the VER port alone (R184). -/
theorem State.decodeFrame_passStream (s : State) : s.decodeFrame.passStream = s.passStream := by
  have hconsult : s.consult.passStream = s.passStream := by
    unfold State.consult
    split <;> rfl
  rcases s.decodeFrame_cases with ⟨-, e⟩ | ⟨-, -, e⟩ | ⟨-, -, e⟩ <;> rw [e]
  · rfl
  · exact hconsult
  · exact hconsult

/-- EMIT keeps the sequence between phases with no block on the PASS port (R190). -/
theorem State.emitThen_passStream {hold done : Phase} (hhold : hold.onPass = s.phase.onPass)
    (hdone : done.onPass = s.phase.onPass) : (s.emitThen hold done).passStream = s.passStream := by
  have hphase : (s.emitThen hold done).phase.onPass = s.phase.onPass := by
    rcases s.emitThen_phase hold done with e | e <;> rw [e]
    · exact hhold
    · exact hdone
  simp only [State.passStream, State.emitThen_env, hphase]

/-- No command touches the blocks, and SRESET leaves the host's side as it is (R218, R231). -/
theorem effect_passStream {i : Instr} (h : s.phase = .accum) : (effect i s).passStream = s.passStream := by
  have hpass : s.phase.onPass = [] := by rw [h]; rfl
  cases i with
  | corr a => exact s.corr_passStream a
  | decode => exact s.decodeFrame_passStream
  | emit => exact State.emitThen_passStream hpass.symm hpass.symm
  | proc => exact State.passStream_setPhase hpass.symm
  | sreset => exact State.passStream_setPhase (y := .accum) hpass.symm
  | nop | slice | pmatch | clear => rfl

/-- The end of a PUSH and the moves of SCAN find and leave the PASS port empty (R155, R278). -/
theorem State.finishPush_passStream {b : Block} (h : s.phase.onPass = []) : (s.finishPush b).passStream = s.passStream := by
  rcases s.finishPush_cases b with ⟨-, e⟩ | ⟨-, e⟩ <;> rw [e] <;> exact State.passStream_setPhase (s := s.bufAppend b) h.symm

theorem State.scanOuterMove_passStream {u : Nat} (h : s.phase.onPass = []) :
    (s.scanOuterMove u).passStream = s.passStream := by
  rcases s.scanOuterMove_cases u with ⟨-, e⟩ | ⟨-, e⟩ <;> rw [e]
  · exact State.passStream_setPhase h.symm
  · exact State.passStream_setPhase (s := s.setBuffer [] 0) h.symm

theorem State.scanInnerMove_passStream {u lsub o : Nat} (h : s.phase.onPass = []) :
    (s.scanInnerMove u lsub o).passStream = s.passStream := by
  have heval : (s.evaluate (u + o)).phase.onPass = [] := by rw [s.evaluate_phase, h]
  rcases s.scanInnerMove_cases u lsub o with ⟨-, -, e⟩ | ⟨-, -, e⟩ | ⟨-, e⟩ <;> rw [e]
  · rw [State.passStream_setPhase (by rw [State.decodeFrame_phase, heval]; rfl), State.decodeFrame_passStream,
      State.evaluate_passStream]
  · rw [State.passStream_setPhase (by rw [heval]; rfl), State.evaluate_passStream]
  · exact State.passStream_setPhase h.symm

/-- A block taken from the IN port goes to the PASS port, if it is well formed (R100, R214). -/
theorem State.acceptBlock_passStream {b : Block} {bs : List Block} (hp : s.phase = .accum) (ho : s.env.offers = b :: bs)
    (hlen : b.length = s.params.blockSize) : ((s.setOffers bs).acceptBlock b).passStream = s.passStream := by
  rw [State.acceptBlock_of_length (by exact hlen)]
  show s.env.passGot ++ [b] ++ bs = s.env.passGot ++ s.phase.onPass ++ s.env.offers
  rw [hp, ho, Phase.onPass, List.append_nil, List.append_assoc, List.singleton_append]

/-- A move of the engine keeps the sequence, if the block it may take is well formed (R100, R218). -/
theorem engineMove_passStream (hlen : ∀ b bs, s.env.offers = b :: bs → b.length = s.params.blockSize)
    (h : s.engineMove = .next t) : t.passStream = s.passStream := by
  have moved {u : State} (e : s.engineMove = .next u) : t = u := Host.Outcome.next.inj (h.symm.trans e)
  have free {y : Phase} (hp : s.phase = y) (hy : y.onPass = []) : s.phase.onPass = [] := by rw [hp, hy]
  cases hp : s.phase with
  | accum =>
    cases ho : s.env.offers with
    | nil => rw [moved (State.engineMove_of_no_offer hp ho)]
    | cons b bs =>
      rw [moved (State.engineMove_of_offer (Phase.mode_eq_accum.mpr hp) ho)]
      exact State.acceptBlock_passStream hp ho (hlen b bs ho)
  | halted => rw [moved (State.engineMove_of_halted (Phase.mode_eq_halted.mpr hp))]
  | busy i =>
    rw [moved (State.engineMove_of_waiting hp), effect_passStream rfl]
    exact State.passStream_setPhase (free hp rfl).symm
  | passHold b => rw [moved (State.engineMove_of_passHold hp)]
  | passTaken b => rw [moved (State.engineMove_of_passTaken hp), State.finishPush_passStream (free hp rfl)]
  | emitHold =>
    rw [moved (State.engineMove_of_emitHold hp)]
    exact State.emitThen_passStream (free hp rfl).symm (free hp rfl).symm
  | scanOuter u => rw [moved (State.engineMove_of_scanOuter hp), State.scanOuterMove_passStream (free hp rfl)]
  | scanInner u lsub o => rw [moved (State.engineMove_of_scanInner hp), State.scanInnerMove_passStream (free hp rfl)]
  | scanEmit u lsub o =>
    rw [moved (State.engineMove_of_scanEmit hp)]
    exact State.emitThen_passStream (free hp rfl).symm (free hp rfl).symm

/-- A take moves the block on the PASS port to those received (R214). -/
theorem State.passOut_passStream {b : Block} (h : s.phase = .passHold b) : (s.passOut b).passStream = s.passStream := by
  show s.env.passGot ++ [b] ++ [] ++ s.env.offers = s.env.passGot ++ s.phase.onPass ++ s.env.offers
  rw [h, Phase.onPass, List.append_nil]

end Stream

/-- Settles O34: the engine's moves by `engineMove_passStream`, the host's take by `State.passOut_passStream`; the plan leaves
out every other event that touches the blocks. -/
theorem passThroughKeepsEveryBlock : Obligations.PassThroughKeepsEveryBlock := by
  intro s t hplan hbusy hlen h
  have planned {e : Event} {rest : List Event} (ha : s.env.agenda = e :: rest) :
      e = .engine ∨ e = .takePass ∨ e = .takeRec ∨ e = .poll := by
    rcases hplan with hnil | ⟨e', rest', ha', he⟩
    · exact absurd (hnil.symm.trans ha) nofun
    · rw [(List.cons.inj (ha.symm.trans ha')).1]
      exact he
  have noAccess {x : Nat} {acc : Access} {rest : List Event} (ha : s.accesses x acc rest) : False := by
    rcases ha with ha | ha <;> simpa using planned ha
  have noCommand {w : Word} {rest : List Event} (ha : s.writesCmd w rest) : False := by
    rcases ha with ha | ha
    · exact noAccess ha
    · simpa using planned ha
  show t.passStream = s.passStream
  cases step_turn h with
  | engine l ht he => exact engineMove_passStream (s := s.setAgenda l) hlen he
  | tookBlock b rest ha hp => exact State.passOut_passStream (s := s.setAgenda rest) hp
  | tookRecord r rs rest ha hf => rfl
  | host x ho hx =>
    show x.passGot ++ s.phase.onPass ++ x.offers = s.passStream
    rw [ho, hx.passGot]
    rfl
  | reset x hr =>
    rcases hr with ⟨rest, ha⟩ | ⟨w, rest, ha, -⟩ | ⟨hp, -⟩
    · simpa using planned ha
    · exact (noCommand ha).elim
    · exact absurd hp hbusy
  | command w i rest ha => exact (noAccess ha).elim
  | status v rest ha | param v rest ha | sel v rest ha => exact (noAccess ha).elim
  | refusedCommand w e rest ha => exact (noCommand ha).elim
  | slow w i rest ha => simpa using planned ha
  | offered b rest ha => simpa using planned ha
  | withdrew rest ha => simpa using planned ha

/-! ### MODE -/

section Mode

variable {s t : State}

/-- Where no window is left, at a miss and at a match, the inner loop stays in SCAN (R155). -/
theorem State.scanInnerMove_mode (s : State) (u lsub o : Nat) : (s.scanInnerMove u lsub o).mode = .proc := by
  rcases s.scanInnerMove_cases u lsub o with ⟨-, -, e⟩ | ⟨-, -, e⟩ | ⟨-, e⟩ <;> rw [e] <;> rfl

/-- The EMIT of a scan stays in SCAN (R155, R190). -/
theorem State.scanEmitMove_mode (s : State) (u lsub o : Nat) : (s.scanEmitMove u lsub o).mode = .proc := by
  rcases s.emitThen_phase (.scanEmit u lsub o) (.scanInner u lsub (o + s.params.span)) with e | e <;>
    rw [State.scanEmitMove, State.mode, e] <;> rfl

/-- What is over when a move of the engine ends in ACCUM (R213). -/
def State.goesIdle (s t : State) : Prop :=
  (∃ i, s.phase = .busy i) ∨
    (s.phase = .emitHold ∧ (s.flags.decOk = false ∨ s.fifo.length < s.params.recDepth)) ∨
    (∃ b, s.phase = .passTaken b ∧ t.accLen = s.accLen + s.params.blockSize ∧
      t.accLen ≤ s.params.blockSize * s.params.nacc) ∨
    ∃ u, s.phase = .scanOuter u ∧ t.mem = [] ∧ t.accLen = 0

/-- A move of the engine changes MODE by taking a block, from ACCUM, or by going back there (R213). -/
theorem engineMove_mode (h : s.engineMove = .next t) (hne : s.mode ≠ t.mode) :
    (s.mode = .accum ∧ ∃ b, s.env.offers = b :: t.env.offers ∧
      (b.length = s.params.blockSize ∧ t.phase = .passHold b ∨ b.length ≠ s.params.blockSize ∧ t.mode = .halted)) ∨
    (s.mode = .proc ∧ t.mode = .accum ∧ s.goesIdle t) := by
  have moved {u : State} (e : s.engineMove = .next u) : t = u := Host.Outcome.next.inj (h.symm.trans e)
  have still {P : Prop} (e : s.engineMove = .next s) : P := absurd (congrArg State.mode (moved e)).symm hne
  have inProc {P : Prop} {y : Phase} (hp : s.phase = y) (hy : y.mode = .proc) (ht : t.mode = .proc) : P :=
    absurd ((congrArg Phase.mode hp).trans (hy.trans ht.symm)) hne
  cases hp : s.phase with
  | accum =>
    have hm : s.mode = .accum := Phase.mode_eq_accum.mpr hp
    cases ho : s.env.offers with
    | nil => exact still (State.engineMove_of_no_offer hp ho)
    | cons b bs =>
      rw [moved (State.engineMove_of_offer hm ho)]
      rcases (s.setOffers bs).acceptBlock_cases b with ⟨hlen, e⟩ | ⟨hlen, e⟩ <;> rw [e]
      · exact .inl ⟨hm, b, rfl, .inl ⟨hlen, rfl⟩⟩
      · exact .inl ⟨hm, b, rfl, .inr ⟨hlen, rfl⟩⟩
  | halted => exact still (State.engineMove_of_halted (Phase.mode_eq_halted.mpr hp))
  | busy i =>
    have ht := moved (State.engineMove_of_waiting hp)
    rcases effect_phase (i := i) (s := s.setPhase .accum) rfl with e | ⟨-, e⟩ | ⟨-, -, -, e⟩ <;> rw [← ht] at e
    · exact .inr ⟨congrArg Phase.mode hp, congrArg Phase.mode e, .inl ⟨i, hp⟩⟩
    · exact inProc hp rfl (congrArg Phase.mode e)
    · exact inProc hp rfl (congrArg Phase.mode e)
  | passHold b => exact still (State.engineMove_of_passHold hp)
  | passTaken b =>
    have ht := moved (State.engineMove_of_passTaken hp)
    rcases s.finishPush_cases b with ⟨-, e⟩ | ⟨hroom, e⟩ <;> rw [e] at ht
    · exact inProc hp rfl (by rw [ht]; rfl)
    · rw [ht]
      exact .inr ⟨congrArg Phase.mode hp, rfl, .inr (.inr (.inl ⟨b, hp, rfl, hroom⟩))⟩
  | emitHold =>
    have ht := moved (State.engineMove_of_emitHold hp)
    rcases s.emitThen_cases .emitHold .accum with ⟨hd, e⟩ | ⟨-, hr, e⟩ | ⟨-, -, e⟩ <;> rw [e] at ht
    · rw [ht]; exact .inr ⟨congrArg Phase.mode hp, rfl, .inr (.inl ⟨hp, .inl hd⟩)⟩
    · rw [ht]; exact .inr ⟨congrArg Phase.mode hp, rfl, .inr (.inl ⟨hp, .inr hr⟩)⟩
    · exact inProc hp rfl (by rw [ht]; rfl)
  | scanOuter u =>
    have ht := moved (State.engineMove_of_scanOuter hp)
    rcases s.scanOuterMove_cases u with ⟨-, e⟩ | ⟨-, e⟩ <;> rw [e] at ht
    · exact inProc hp rfl (by rw [ht]; rfl)
    · rw [ht]; exact .inr ⟨congrArg Phase.mode hp, rfl, .inr (.inr (.inr ⟨u, hp, rfl, rfl⟩))⟩
  | scanInner u lsub o =>
    exact inProc hp rfl (by rw [moved (State.engineMove_of_scanInner hp), State.scanInnerMove_mode])
  | scanEmit u lsub o =>
    exact inProc hp rfl (by rw [moved (State.engineMove_of_scanEmit hp), State.scanEmitMove_mode])

end Mode

/-- Settles O53: the engine's moves by `engineMove_mode`, the commands by `effect_phase`; of the host's other events only
resets, slow commands and takes of a block touch the phase. -/
theorem modeChangesOnlyAsListed : Obligations.ModeChangesOnlyAsListed := by
  refine ⟨fun s hm ha ho => (step_of_no_agenda ha).trans (State.engineMove_of_no_offer (Phase.mode_eq_accum.mp hm) ho),
    fun s t h hne => ?_⟩
  cases step_turn h with
  | engine l ht he =>
    rcases engineMove_mode (s := s.setAgenda l) he hne with ⟨hm, b, ho, ⟨hlen, hp⟩ | ⟨hlen, hh⟩⟩ | ⟨hm, hm', hidle⟩
    · exact .inr (.inr (.inl ⟨hm, congrArg Phase.mode hp, .inl ⟨ht, b, hp, ho, hlen⟩⟩))
    · exact .inr (.inl ⟨hm, hh, ht, b, ho, hlen⟩)
    · exact .inr (.inr (.inr ⟨hm, hm', ht, hidle⟩))
  | command w i rest ha hd he =>
    by_cases hp : s.phase = .accum
    · have hm : s.mode = .accum := Phase.mode_eq_accum.mpr hp
      rw [exec_eq_effect (s := (s.setAgenda rest).answer .written) hp] at he
      obtain rfl := Host.Outcome.next.inj he
      rcases effect_phase (i := i) (s := (s.setAgenda rest).answer .written) hp with e | ⟨rfl, e⟩ | ⟨rfl, hdec, hfull, e⟩
      · exact absurd (congrArg Phase.mode (hp.trans e.symm)) hne
      · exact .inr (.inr (.inl ⟨hm, rfl, .inr (.inl ⟨.inl ⟨hm, w, rest, ha, hd⟩, rfl⟩)⟩))
      · exact .inr (.inr (.inl ⟨hm, congrArg Phase.mode e,
          .inr (.inr (.inl ⟨.inl ⟨hm, w, rest, ha, hd⟩, hdec, hfull, e⟩))⟩))
    · by_cases hi : i = .sreset
      · subst hi
        obtain rfl := Host.Outcome.next.inj he
        exact .inl ⟨.inr (.inl ⟨w, rest, .inl ha, hd⟩), rfl⟩
      · rw [exec_of_not_accum (s := (s.setAgenda rest).answer .written) hi hp] at he
        obtain rfl := Host.Outcome.next.inj he
        exact absurd rfl hne
  | slow w i rest ha hd hi hp =>
    exact .inr (.inr (.inl ⟨congrArg Phase.mode hp, rfl, .inr (.inr (.inr ⟨w, i, rest, ha, hd, hi, rfl⟩))⟩))
  | reset x hr => exact .inl ⟨hr, rfl⟩
  | tookBlock b rest ha hp => exact absurd (congrArg Phase.mode hp) hne
  | refusedCommand | status | param | sel | tookRecord | offered | withdrew | host => exact absurd rfl hne

end Sys2Proof.Machine
end

section
/-! SUPPORT. NOP, its word and its refusal, and the host's take of a record (R83 to R85, R230, R235). -/

namespace Sys2Proof.Machine

/-- An operand under OP = 0 makes a word illegal, and the refusal names OP (R84, R230). -/
theorem decodeWord_illegal_of_opField_zero {w : Word} (hop : opField w = 0) (harg : argField w ≠ 0) :
    decodeWord w = .illegal (.nonzeroArg 0) := by
  simp only [decodeWord, hop, plainCommand, if_neg harg]

/-- Settles O9: the words by their fields, the command by R85's mode check. -/
theorem nopChangesNothing : Obligations.NopChangesNothing := by
  refine ⟨decodeWord_of_fields rfl rfl, fun w hop harg => ?_, fun s hm => ?_, fun s hm => ?_⟩
  · rw [toNat_extractLsb_opField] at hop
    rw [BitVec.toNat_ne, toNat_extractLsb_argField] at harg
    exact decodeWord_illegal_of_opField_zero hop harg
  · exact exec_of_accum nofun (Phase.mode_eq_accum.mp hm)
  · exact exec_of_not_accum nofun (mt Phase.mode_eq_accum.mpr hm)

/-- A take with no record there waits at the head of the plan while the engine moves (R235, R276). -/
theorem step_of_takeRec_empty {s : State} {rest : List Event} (hf : s.fifo = []) (ha : s.env.agenda = .takeRec :: rest) :
    step s = s.engineMove := by
  simp only [step, ha, State.turn, hf]

/-- Settles O29: `step_of_takeRec` with a record, `step_of_takeRec_empty` without one; neither looks at MODE. -/
theorem takeRecord : Obligations.TakeRecord :=
  ⟨fun _ _ _ _ ha hf => step_of_takeRec hf ha, fun _ _ ha hf => step_of_takeRec_empty hf ha⟩

end Sys2Proof.Machine
end
